-- ==== Sys2Proof/Word.lean ====
section
/-! DEFINITION. The two word types of the hardware (rule R6): bytes of registers and memory, and 16-bit addresses. -/

namespace Sys2Proof

/-- `u8`: a register or a memory byte (R6). -/
abbrev Byte := BitVec 8

/-- `u16`: an address, the program counter, the stack pointer, a register pair (R6). -/
abbrev Word := BitVec 16

end Sys2Proof
end

