-- ==== Sys2Proof/Config.lean ====
section
/-! DEFINITION. The configuration record of rule R4, every field of it, as plain data, and the one free value of the hardware:
the draw. The defaults stand in Machine/Params.lean. -/

namespace Sys2Proof

/-- `cfg.IMM16_ORDER` (R4, R113): which byte of a 16-bit immediate the instruction stream gives first. -/
inductive ByteOrder where
  /-- The first byte fetched is the high byte (the default, decision D4). -/
  | highFirst
  /-- The first byte fetched is the low byte. -/
  | lowFirst
  deriving DecidableEq, Repr

/-- `cfg.ROM_HI_WRITE` (R4, R67): what a write to 0x4000..0x7FFF does. -/
inductive RomHiWrite where
  /-- It raises `UnmappedAddress` (the default, decision D19). -/
  | fault
  /-- It is dropped like a write to the low half. -/
  | drop
  deriving DecidableEq, Repr

/-- A flag formula of two bytes, as data: the three that R191 prints, and any other by the pairs on which the flag is set. Every
function from two bytes to a flag is one of these (DESIGN CHOICE, safe: log entry 7). -/
inductive FlagFormula where
  /-- `((a & 0xF) + (b & 0xF)) & 0x10 == 0x10`, the default of `cfg.HALF_BORROW` (decision D5). -/
  | addShaped
  /-- `a < b`, unsigned, the default of `cfg.BORROW` (decision D6). -/
  | below
  /-- `(a & 0xF) < (b & 0xF)`, the conventional half-borrow R191 names beside its default. -/
  | nibbleBelow
  /-- Set on the listed pairs and on no other. -/
  | listed (pairs : List (Byte × Byte))
  deriving DecidableEq, Repr

/-- `cfg.RESET` (R4, R46): the reset values R46 marks as decisions. M = T = 0, the clear low nibble of F, `BOOT_DONE = 0` and
`FAULT = none` are fixed there and are no part of it. -/
structure ResetRecord where
  a : Byte
  /-- The flag Z of F. -/
  z : Bool
  /-- The flag N of F. -/
  n : Bool
  /-- The flag H of F. -/
  hc : Bool
  /-- The flag C of F. -/
  cy : Bool
  b : Byte
  c : Byte
  d : Byte
  e : Byte
  h : Byte
  l : Byte
  sp : Word
  pc : Word
  ime : Bool
  /-- The pending toggle, if there is one, by the value it gives IME: at most one is outstanding (R29). -/
  pending : Option Bool
  /-- The bytes of WRAM, HRAM, VRAM and the APU block that are not zero, by bus address. -/
  ram : List Host.Cell
  ifReg : Byte
  ieReg : Byte
  lcdc : Byte
  stat : Byte
  scy : Byte
  scx : Byte
  bgp : Byte
  deriving DecidableEq, Repr

/-- The record `cfg` (R4). No step writes it: the ROM images are "not state: nothing writes them" (R30). It stands inside `State`
so that a machine of any configuration is one plain value (DESIGN CHOICE, safe: log entry 7). `ADDR_IE` is no field: R4 marks it
as fixed by the source. -/
structure Cfg where
  /-- `cfg.CART`: the cartridge image by address 0x0000..0x7FFF, its bytes equal to zero not listed (R65). -/
  cart : List Host.Cell
  /-- `cfg.BOOT`: the boot image by address 0x00..0xFF, zero bytes not listed, or absent (R64). -/
  boot : Option (List Host.Cell)
  /-- `cfg.PREFIX` (R119). -/
  prefixByte : Byte
  /-- `cfg.IMM16_ORDER`. -/
  imm16Order : ByteOrder
  /-- `cfg.HALF_BORROW` (R191). -/
  halfBorrow : FlagFormula
  /-- `cfg.BORROW` (R191). -/
  borrow : FlagFormula
  /-- `cfg.EXTRA_M` (R146): opcode bytes with their internal machine cycles, the first row of a byte counting and a byte without a
  row having none; the cycle of 0xF8 is fixed by the source and needs no row. -/
  extraM : List (Byte × Nat)
  /-- `cfg.ROM_HI_WRITE`. -/
  romHiWrite : RomHiWrite
  /-- `cfg.ADDR_IF`. -/
  addrIf : Word
  /-- `cfg.ADDR_LCDC`. -/
  addrLcdc : Word
  /-- `cfg.ADDR_STAT`. -/
  addrStat : Word
  /-- `cfg.ADDR_SCY`. -/
  addrScy : Word
  /-- `cfg.ADDR_SCX`. -/
  addrScx : Word
  /-- `cfg.ADDR_LY`. -/
  addrLy : Word
  /-- `cfg.ADDR_BGP`. -/
  addrBgp : Word
  /-- `cfg.ADDR_BOOTOFF`. -/
  addrBootOff : Word
  /-- `cfg.APU_LO`. -/
  apuLo : Word
  /-- `cfg.APU_HI`. -/
  apuHi : Word
  /-- `cfg.MAP_BASE0`. -/
  mapBase0 : Word
  /-- `cfg.MAP_BASE1`. -/
  mapBase1 : Word
  /-- `cfg.DATA_BASE_U`. -/
  dataBaseU : Word
  /-- `cfg.DATA_BASE_S`. -/
  dataBaseS : Word
  /-- `cfg.LCDC_MAP_BIT`. -/
  lcdcMapBit : Fin 8
  /-- `cfg.LCDC_DATA_BIT`. -/
  lcdcDataBit : Fin 8
  /-- `cfg.SCREEN_W`: the width of the visible window. -/
  screenW : Nat
  /-- `cfg.SCREEN_H`: the height of the visible window. -/
  screenH : Nat
  /-- `cfg.RESET`. -/
  reset : ResetRecord
  /-- `cfg.STOP_PC` (R149): where the host ends a run; no step reads it. -/
  stopPc : Option Word
  deriving DecidableEq, Repr

/-- The free value (R11 "draw", R73, R250): what the `n`-th read of LY or of the boot-complete register returns. It has
no body, so nothing can be proved of its values: any byte, chosen afresh at each read, under no law. DESIGN CHOICE, safe: that
the sequence is indexed by a counter of the model (log entry 2). -/
opaque Config.draw : Nat → Byte

end Sys2Proof
end

