-- ==== Sys2Proof/Machine/FlagFormulas.lean ====
section
/-! DEFINITION. The flag byte (R21) and the flag helper formulas as functions of bytes (R8, R191). -/

namespace Sys2Proof

namespace Machine

/-- The byte F of four flags (R21): Z, N, H, C in bits 7, 6, 5, 4, the low nibble zero. -/
def flagByte (z n h c : Bool) : Byte :=
  (BitVec.ofBool z ++ BitVec.ofBool n ++ BitVec.ofBool h ++ BitVec.ofBool c ++ 0#4 : BitVec (1 + 1 + 1 + 1 + 4))

/-- `hc_add(a, b)` (R8). -/
def hcAdd (a b : Byte) : Bool := ((a.toNat &&& 0xF) + (b.toNat &&& 0xF)) &&& 0x10 == 0x10

/-- `c_add(a, b)` (R8). -/
def cAdd (a b : Byte) : Bool := (a.toNat + b.toNat) &&& 0x100 == 0x100

/-- `z(v)` (R8). -/
def isZero (v : Byte) : Bool := v == 0

end Machine

/-- The value of a flag formula (R191). -/
def FlagFormula.eval (formula : FlagFormula) (a b : Byte) : Bool :=
  match formula with
  | .addShaped => Machine.hcAdd a b
  | .below => decide (a.toNat < b.toNat)
  | .nibbleBelow => decide (a.toNat &&& 0xF < b.toNat &&& 0xF)
  | .listed pairs => decide ((a, b) ∈ pairs)

end Sys2Proof
end

