-- ==== Sys2Proof/Machine/Memory.lean ====
section
/-! DEFINITION. Memory as plain data in one canonical form, and the cells that exist (R30, R33, R35, R61). -/

namespace Sys2Proof

/-- The cells of VRAM, work RAM, the APU block and high RAM, by bus address (R61). -/
def Cfg.ramCell (cfg : Cfg) (k : Nat) : Bool :=
  (0x8000 ≤ k && k ≤ 0x9FFF) || (0xC000 ≤ k && k ≤ 0xDFFF) || (cfg.apuLo.toNat ≤ k && k ≤ cfg.apuHi.toNat) ||
    (0xFF80 ≤ k && k ≤ 0xFFFE)

namespace Machine

/-- Bytes by address: addresses strictly rising, no byte listed that an unlisted address reads as. -/
abbrev Memory := List Host.Cell

/-- What an address that memory does not list reads as: the default reset contents of every RAM (R46; DESIGN CHOICE, unsafe: log
entry 4). -/
def Memory.unlisted : Byte := 0x00

/-- The canonical form: addresses strictly rising, and no byte listed that an unlisted address reads as. -/
abbrev Memory.wf (mem : Memory) : Prop :=
  mem.Pairwise (fun p q => p.1 < q.1) ∧ ∀ p ∈ mem, p.2 ≠ Memory.unlisted

/-- The byte at a cell. -/
def Memory.readByte (mem : Memory) (k : Nat) : Byte :=
  match mem with
  | [] => Memory.unlisted
  | (k', v) :: rest => if k' = k then v else Memory.readByte rest k

/-- A byte put in front of a list, unless it is what an unlisted address reads as. -/
def Memory.keep (k : Nat) (v : Byte) (rest : Memory) : Memory :=
  if v = Memory.unlisted then rest else (k, v) :: rest

/-- The byte at a cell becomes `v`; the canonical form is kept. -/
def Memory.writeByte (mem : Memory) (k : Nat) (v : Byte) : Memory :=
  match mem with
  | [] => Memory.keep k v []
  | (k', v') :: rest =>
    if k < k' then Memory.keep k v ((k', v') :: rest)
    else if k = k' then Memory.keep k v rest
    else (k', v') :: Memory.writeByte rest k v

/-- The memory that holds the bytes of a list from cell `k` on. -/
def Memory.ofBytes (k : Nat) (bytes : List Byte) : Memory :=
  match bytes with
  | [] => []
  | v :: rest => Memory.keep k v (Memory.ofBytes (k + 1) rest)

/-- The memory of a list of cells in any order: those that exist, a cell listed twice holding its first byte. -/
def Memory.ofCells (cfg : Cfg) (cells : List Host.Cell) : Memory :=
  match cells with
  | [] => []
  | (k, v) :: rest =>
    if cfg.ramCell k then Memory.writeByte (Memory.ofCells cfg rest) k v else Memory.ofCells cfg rest

end Machine

end Sys2Proof
end

