-- ==== Sys2Proof/Machine/Params.lean ====
section
/-! DEFINITION. The configuration record at the defaults of rule R4 (those it marks as decisions or as general knowledge are
PRESUMED, unsafe: log entry 6), the values that no configuration changes, and what EXTRA_M gives an opcode. -/

namespace Sys2Proof

namespace Machine.Params

/-- `cfg.ADDR_IE`, which R4 marks *source*: no configuration moves it. -/
def addrIe : Nat := 0xFFFF

/-- `cfg.RESET` at its default (R46): zero everywhere (decision D14). -/
def defaultReset : ResetRecord where
  a := 0x00
  z := false
  n := false
  hc := false
  cy := false
  b := 0x00
  c := 0x00
  d := 0x00
  e := 0x00
  h := 0x00
  l := 0x00
  sp := 0x0000
  pc := 0x0000
  ime := false
  pending := none
  ram := []
  ifReg := 0x00
  ieReg := 0x00
  lcdc := 0x00
  stat := 0x00
  scy := 0x00
  scx := 0x00
  bgp := 0x00

/-- The record at the defaults of R4. `cfg.CART` has no default there: the empty list, an image of zero bytes, stands for "no
image loaded" (log entry 5). -/
def defaultCfg : Cfg where
  cart := []
  boot := none
  prefixByte := 0xCB
  imm16Order := .highFirst
  halfBorrow := .addShaped
  borrow := .below
  extraM := [(0xC5, 1), (0xD5, 1), (0xE5, 1), (0xCD, 1), (0xC9, 1)]
  romHiWrite := .fault
  addrIf := 0xFF0F
  addrLcdc := 0xFF40
  addrStat := 0xFF41
  addrScy := 0xFF42
  addrScx := 0xFF43
  addrLy := 0xFF44
  addrBgp := 0xFF47
  addrBootOff := 0xFF50
  apuLo := 0xFF10
  apuHi := 0xFF3F
  mapBase0 := 0x9800
  mapBase1 := 0x9C00
  dataBaseU := 0x8000
  dataBaseS := 0x9000
  lcdcMapBit := 3
  lcdcDataBit := 4
  screenW := 160
  screenH := 144
  reset := defaultReset
  stopPc := none

end Machine.Params

/-- The number a list of rows gives an opcode byte: that of its first row, or 0. -/
def rowCycles (rows : List (Byte × Nat)) (op : Byte) : Nat :=
  match rows with
  | [] => 0
  | (k, n) :: rest => if k = op then n else rowCycles rest op

/-- `cfg.EXTRA_M(op)` (R4, R146): the machine cycles of an opcode that are no bus access. That of 0xF8 is the source's. -/
def Cfg.extraCycles (cfg : Cfg) (op : Byte) : Nat :=
  if op = 0xF8 then 1 else rowCycles cfg.extraM op

end Sys2Proof
end

