-- ==== Sys2Proof/Machine/State.lean ====
section
/-! DEFINITION. Everything the spec gives the machine (10_state.md), as plain data, and the state after reset (R46). -/

namespace Sys2Proof.Machine

/-- The direction a failing access carries (R271). -/
inductive AccessKind where
  | read
  | write
  deriving DecidableEq, Repr

/-- The conditions of CORE: the `Err` values of R9 and R270, held in the latch `FAULT` (R36). A step that raises one
answers a NEXT state with the condition latched (R274); every later step answers it as its fault (R275). DEDUCED, safe: log
entry 1. -/
inductive Fault where
  /-- Raised by any bus access to an address without an owner, or by a write to the high ROM half (R271). Safe: the
  spec names it. -/
  | unmappedAddress (addr : Word) (kind : AccessKind)
  /-- Raised by the 98 unimplemented primary entries (R144, R272). Safe: the spec names it. -/
  | unimplementedOpcode (op : Byte)
  /-- Raised by the 256 unimplemented extended entries (R145, R273). Safe: the spec names it. -/
  | unimplementedExtendedOpcode (first op : Byte)
  deriving DecidableEq, Repr

/-- Why a step could have no meaning. -/
inductive Refusal where
  /-- Raised by exec for an instruction without a meaning. Safe. No arm raises it: every instruction has its meaning. -/
  | notModelled (mnemonic : String)
  deriving DecidableEq, Repr

/-- The state of CORE. -/
structure State where
  /-- Register A (R20). -/
  a : Byte
  /-- Register F: Z, N, H, C in bits 7..4, bits 3..0 zero (R21). -/
  f : Byte
  /-- Register B (R20). -/
  b : Byte
  /-- Register C (R20). -/
  c : Byte
  /-- Register D (R20). -/
  d : Byte
  /-- Register E (R20). -/
  e : Byte
  /-- Register H (R20). -/
  h : Byte
  /-- Register L (R20). -/
  l : Byte
  /-- SP (R25). -/
  sp : Word
  /-- PC (R25). -/
  pc : Word
  /-- M, machine cycles, without bound (R28, decision D12; log entry 12). -/
  m : Nat
  /-- T, T-states (R28). -/
  t : Nat
  /-- IME (R29). -/
  ime : Bool
  /-- PEND_DI (R29). -/
  pendDi : Bool
  /-- PEND_EI (R29). -/
  pendEi : Bool
  /-- The latch FAULT (R36). -/
  fault : Option Fault
  /-- BOOT_DONE (R32). -/
  bootDone : Bool
  /-- VRAM, WRAM, HRAM and the APU bytes (R30, R33, R35), each at its bus address. -/
  mem : Memory
  /-- The byte IF (R31). -/
  ifReg : Byte
  /-- The byte IE (R31). -/
  ieReg : Byte
  /-- LCDC (R34). -/
  lcdc : Byte
  /-- STAT (R34). -/
  stat : Byte
  /-- SCY (R34). -/
  scy : Byte
  /-- SCX (R34). -/
  scx : Byte
  /-- BGP (R34). -/
  bgp : Byte
  /-- The model's own field: how many draws have been taken, so that each read takes a fresh one (R250; DESIGN CHOICE, safe: log
entry 2). -/
  draws : Nat
  /-- The configuration record (R4); no step writes it. -/
  cfg : Cfg
  deriving DecidableEq, Repr

/-- The state of a machine of configuration `cfg` after reset (R46, R300): the values of `cfg.RESET`; M = T = 0, the overlay not
yet disabled and no condition latched in every configuration. -/
def State.start (cfg : Cfg) : State where
  a := cfg.reset.a
  f := flagByte cfg.reset.z cfg.reset.n cfg.reset.hc cfg.reset.cy
  b := cfg.reset.b
  c := cfg.reset.c
  d := cfg.reset.d
  e := cfg.reset.e
  h := cfg.reset.h
  l := cfg.reset.l
  sp := cfg.reset.sp
  pc := cfg.reset.pc
  m := 0
  t := 0
  ime := cfg.reset.ime
  pendDi := cfg.reset.pending == some false
  pendEi := cfg.reset.pending == some true
  fault := none
  bootDone := false
  mem := Memory.ofCells cfg cfg.reset.ram
  ifReg := cfg.reset.ifReg
  ieReg := cfg.reset.ieReg
  lcdc := cfg.reset.lcdc
  stat := cfg.reset.stat
  scy := cfg.reset.scy
  scx := cfg.reset.scx
  bgp := cfg.reset.bgp
  draws := 0
  cfg := cfg

/-- The state after reset at the defaults of R4 (R46): zero everywhere, PC at 0x0000, no image loaded (DESIGN CHOICE, unsafe: log
entries 3 and 5). -/
def State.reset : State := State.start Params.defaultCfg

end Sys2Proof.Machine
end

