-- ==== Sys2Proof/Machine/Operands.lean ====
section
/-! DEFINITION. The operand forms: the byte registers and their codes (R20, R23), the register pairs (R22), the two
halves of a word, the 16-bit immediate (R113) and the sign-extended byte (R6). -/

namespace Sys2Proof.Machine

/-- `(h ++ l) = h * 256 + l` (R5). -/
def word (hi lo : Byte) : Word := (hi ++ lo : BitVec (8 + 8))

/-- `v[15:8]` (R5). -/
def hi8 (v : Word) : Byte := v.extractLsb' 8 8

/-- `v[7:0]` (R5). -/
def lo8 (v : Word) : Byte := v.extractLsb' 0 8

/-- `sext_16(v)` (R6): `v` below 128 stands for itself, else `0xFF00` is added. -/
def sext16 (v : Byte) : Word := v.signExtend 16

/-- The value of a 16-bit immediate from its two bytes in stream order (R113). -/
def imm16 (order : ByteOrder) (b1 b2 : Byte) : Word :=
  match order with
  | .highFirst => word b1 b2
  | .lowFirst => word b2 b1

/-- The seven general byte registers (R20); F is no operand (R23). -/
inductive Reg8 where
  | b
  | c
  | d
  | e
  | h
  | l
  | a
  deriving DecidableEq, Repr

/-- The operand code of a register (R23); code 6 is `(HL)`, no register. -/
def Reg8.code : Reg8 → BitVec 3
  | .b => 0
  | .c => 1
  | .d => 2
  | .e => 3
  | .h => 4
  | .l => 5
  | .a => 7

/-- The register pairs (R22). -/
inductive Pair where
  | bc
  | de
  | hl
  deriving DecidableEq, Repr

/-- The pair code (R23). -/
def Pair.code : Pair → BitVec 2
  | .bc => 0
  | .de => 1
  | .hl => 2

/-- `x[r]` (R7). -/
def State.getReg (s : State) : Reg8 → Byte
  | .b => s.b
  | .c => s.c
  | .d => s.d
  | .e => s.e
  | .h => s.h
  | .l => s.l
  | .a => s.a

/-- `x[r] <- v` (R7). -/
def State.setReg (s : State) (r : Reg8) (v : Byte) : State :=
  match r with
  | .b => { s with b := v }
  | .c => { s with c := v }
  | .d => { s with d := v }
  | .e => { s with e := v }
  | .h => { s with h := v }
  | .l => { s with l := v }
  | .a => { s with a := v }

/-- `xx[p]` (R22): the high register first. -/
def State.getPair (s : State) : Pair → Word
  | .bc => word s.b s.c
  | .de => word s.d s.e
  | .hl => word s.h s.l

/-- `xx[p] <- v` (R22). -/
def State.setPair (s : State) (p : Pair) (v : Word) : State :=
  match p with
  | .bc => { s with b := hi8 v, c := lo8 v }
  | .de => { s with d := hi8 v, e := lo8 v }
  | .hl => { s with h := hi8 v, l := lo8 v }

end Sys2Proof.Machine
end

