-- ==== Sys2Proof/Machine/Flags.lean ====
section
/-! DEFINITION. The flag register F (R21, R27) and the result of every arithmetic, logical and compare operation with its four
flags (R190 to R213), the borrow formulas taken from the configuration (R191). -/

namespace Sys2Proof.Machine

/-- Flag Z, `F[7]` (R21). -/
def State.flagZ (s : State) : Bool := s.f.getLsbD 7

/-- Flag N, `F[6]` (R21). -/
def State.flagN (s : State) : Bool := s.f.getLsbD 6

/-- Flag H, `F[5]` (R21). -/
def State.flagH (s : State) : Bool := s.f.getLsbD 5

/-- Flag C, `F[4]` (R21). -/
def State.flagC (s : State) : Bool := s.f.getLsbD 4

/-- `hb_sub(a, b) = cfg.HALF_BORROW(a, b)` (R8). -/
def hbSub (cfg : Cfg) (a b : Byte) : Bool := cfg.halfBorrow.eval a b

/-- `b_sub(a, b) = cfg.BORROW(a, b)` (R8). -/
def bSub (cfg : Cfg) (a b : Byte) : Bool := cfg.borrow.eval a b

/-- What an arithmetic, logical or compare operation computes: its 8-bit result and the whole flag nibble, "from
scratch" (R27, R190). -/
structure AluOut where
  value : Byte
  z : Bool
  n : Bool
  h : Bool
  c : Bool
  deriving DecidableEq, Repr

/-- `a + b` with the flags of the add family (R192). -/
def addOut (a b : Byte) : AluOut :=
  let s := a + b
  { value := s, z := isZero s, n := false, h := hcAdd a b, c := cAdd a b }

/-- `a - b` with the flags of the subtract and compare family (R195, R207). -/
def subOut (cfg : Cfg) (a b : Byte) : AluOut :=
  let d := a - b
  { value := d, z := isZero d, n := true, h := hbSub cfg a b, c := bSub cfg a b }

/-- The flags of a logical result (R190): N, H and C are 0. -/
def logicOut (v : Byte) : AluOut :=
  { value := v, z := isZero v, n := false, h := false, c := false }

/-- The six two-operand operations, in the order of the encodings' `ooo` field (R111). -/
inductive AluOp where
  | add
  | sub
  | and
  | xor
  | or
  | cp
  deriving DecidableEq, Repr

/-- The field `ooo` of the ALU encodings (R111). -/
def AluOp.code : AluOp → BitVec 3
  | .add => 0b000
  | .sub => 0b010
  | .and => 0b100
  | .xor => 0b101
  | .or => 0b110
  | .cp => 0b111

/-- The result and flags of an operation on A and the second operand (R192 to R209). -/
def aluOut (cfg : Cfg) (op : AluOp) (a b : Byte) : AluOut :=
  match op with
  | .add => addOut a b
  | .sub => subOut cfg a b
  | .and => logicOut (a &&& b)
  | .xor => logicOut (a ^^^ b)
  | .or => logicOut (a ||| b)
  | .cp => subOut cfg a b

/-- Whether the operation writes its result to A: `CP` discards it (R190). -/
def AluOp.writesA : AluOp → Bool
  | .cp => false
  | _ => true

/-- INC (R210): `a + 1`, all four flags. -/
def incOut (a : Byte) : AluOut := addOut a 1

/-- DEC (R212): `a - 1`, all four flags. -/
def decOut (cfg : Cfg) (a : Byte) : AluOut := subOut cfg a 1

/-- All four flags written, none kept (R27). -/
def State.setFlags (s : State) (z n h c : Bool) : State := { s with f := flagByte z n h c }

end Sys2Proof.Machine
end

