-- ==== Sys2Proof/Machine/Ops.lean ====
section
/-! DEFINITION. The named operations every meaning is built from: the bus over the memory of Machine/Memory.lean
(20_memory.md), cycle counting and byte access (R7), fetching (R142), the stack primitives (R220), resolving the interrupt delay line
(R141), and taking a condition (R274), the one exception entry of the hardware. -/

namespace Sys2Proof.Machine

/-! ## The address router (R61) -/

/-- The owner of an address: the rows of the region table of R61. -/
inductive Owner where
  /-- The boot image, visible (R64). -/
  | bootRom
  /-- Cartridge ROM 0x0000..0x3FFF (R65, R66). -/
  | romLow
  /-- Cartridge ROM 0x4000..0x7FFF (R65, R67). -/
  | romHigh
  /-- A byte of VRAM, work RAM, high RAM or the APU block; `cell` is its own bus address, for echo RAM that of the
  work RAM byte it shows (R68 to R71, R75). -/
  | ram (cell : Nat)
  /-- IF (R72). -/
  | ifByte
  /-- IE (R72). -/
  | ieByte
  /-- LCDC (R241). -/
  | lcdc
  /-- STAT (R241). -/
  | stat
  /-- SCY (R241). -/
  | scy
  /-- SCX (R241). -/
  | scx
  /-- LY (R250). -/
  | ly
  /-- BGP (R241). -/
  | bgp
  /-- The boot-complete register (R73). -/
  | bootComplete
  /-- No owner (R76). -/
  | nobody
  deriving DecidableEq, Repr

/-- The rows of R61 whose place the configuration decides, with high RAM and IE, in the table's order; what none of them holds
has no owner (R76). -/
def registerOwner (cfg : Cfg) (a : Nat) : Owner :=
  if a = cfg.addrIf.toNat then .ifByte
  else if cfg.apuLo.toNat ≤ a ∧ a ≤ cfg.apuHi.toNat then .ram a
  else if a = cfg.addrLcdc.toNat then .lcdc
  else if a = cfg.addrStat.toNat then .stat
  else if a = cfg.addrScy.toNat then .scy
  else if a = cfg.addrScx.toNat then .scx
  else if a = cfg.addrLy.toNat then .ly
  else if a = cfg.addrBgp.toNat then .bgp
  else if a = cfg.addrBootOff.toNat then .bootComplete
  else if 0xFF80 ≤ a ∧ a ≤ 0xFFFE then .ram a
  else if a = Params.addrIe then .ieByte
  else .nobody

/-- The region table of R61, the first matching row winning; `overlay` says whether the boot image is visible. The rows without an
owner stand at the defaults only, so they are no rows here but what is left (DEDUCED, unsafe where a configuration moves a register
into one: log entry 20). -/
def owner (cfg : Cfg) (overlay : Bool) (a : Nat) : Owner :=
  if a ≤ 0x00FF ∧ overlay = true then .bootRom
  else if a ≤ 0x3FFF then .romLow
  else if a ≤ 0x7FFF then .romHigh
  else if a ≤ 0x9FFF then .ram a
  else if 0xC000 ≤ a ∧ a ≤ 0xDFFF then .ram a
  else if 0xE000 ≤ a ∧ a ≤ 0xFDFF then .ram (a - 0x2000)
  else registerOwner cfg a

/-- Whether the boot image is visible (R64): it is present and not yet disabled. -/
def State.overlay (s : State) : Bool := s.cfg.boot.isSome && !s.bootDone

/-- The owner of a bus address in a state. -/
def State.ownerOf (s : State) (a : Word) : Owner := owner s.cfg s.overlay a.toNat

/-! ## Reading and writing the bus (R62, R63) -/

/-- What reading an address gives (the *read* column of R61): a byte, a draw, or `UnmappedAddress`. -/
inductive Lookup where
  | byte (v : Byte)
  | draw
  | unmapped
  deriving DecidableEq, Repr

/-- The *read* column of R61: it changes nothing. -/
def State.lookup (s : State) (a : Word) : Lookup :=
  match s.ownerOf a with
  | .bootRom => .byte (Memory.readByte (s.cfg.boot.getD []) a.toNat)
  | .romLow => .byte (Memory.readByte s.cfg.cart a.toNat)
  | .romHigh => .byte (Memory.readByte s.cfg.cart a.toNat)
  | .ram k => .byte (Memory.readByte s.mem k)
  | .ifByte => .byte s.ifReg
  | .ieByte => .byte s.ieReg
  | .lcdc => .byte s.lcdc
  | .stat => .byte s.stat
  | .scy => .byte s.scy
  | .scx => .byte s.scx
  | .ly => .draw
  | .bgp => .byte s.bgp
  | .bootComplete => .draw
  | .nobody => .unmapped

/-- The *write* column of R61: the state after the write, or none where it raises `UnmappedAddress`. The host's warning of a
dropped write is no state (R66, R90; log entry 13). -/
def State.store (s : State) (a : Word) (v : Byte) : Option State :=
  match s.ownerOf a with
  | .bootRom => some s
  | .romLow => some s
  | .romHigh =>
    match s.cfg.romHiWrite with
    | .fault => none
    | .drop => some s
  | .ram k => some { s with mem := Memory.writeByte s.mem k v }
  | .ifByte => some { s with ifReg := v }
  | .ieByte => some { s with ieReg := v }
  | .lcdc => some { s with lcdc := v }
  | .stat => some { s with stat := v }
  | .scy => some { s with scy := v }
  | .scx => some { s with scx := v }
  | .ly => some s
  | .bgp => some { s with bgp := v }
  | .bootComplete => some (if v = 0 then s else { s with bootDone := true })
  | .nobody => none

/-- What a sub-step of an instruction gives: a value and the state after it, or a condition raised with the state at
the failure point (R274). -/
inductive Res (α : Type) where
  | ok (v : α) (s : State)
  | raise (e : Fault) (s : State)

/-- One sub-step after another; a raised condition ends the sequence (R7 `raise`). -/
def Res.andThen {α β : Type} (r : Res α) (next : α → State → Res β) : Res β :=
  match r with
  | .ok v s => next v s
  | .raise e s => .raise e s

/-- `MemRead(addr, 1)` (R62). A read of LY or of the boot-complete register takes a fresh draw. -/
def memRead (a : Word) (s : State) : Res Byte :=
  match s.lookup a with
  | .byte v => .ok v s
  | .draw => .ok (Config.draw s.draws) { s with draws := s.draws + 1 }
  | .unmapped => .raise (.unmappedAddress a .read) s

/-- `MemWrite(addr, 1, v)` (R63). -/
def memWrite (a : Word) (v : Byte) (s : State) : Res Unit :=
  match s.store a v with
  | some s' => .ok () s'
  | none => .raise (.unmappedAddress a .write) s

/-- `tick(n)` (R7): `n` machine cycles, four times as many T-states. -/
def State.tick (s : State) (n : Nat) : State := { s with m := s.m + n, t := s.t + 4 * n }

/-- `rd8(a)` (R7): the cycle is counted only if the access did not raise. -/
def rd8 (a : Word) (s : State) : Res Byte :=
  (memRead a s).andThen fun v s' => .ok v (s'.tick 1)

/-- `wr8(a, v)` (R7). -/
def wr8 (a : Word) (v : Byte) (s : State) : Res Unit :=
  (memWrite a v s).andThen fun _ s' => .ok () (s'.tick 1)

/-- `fetch8()` (R7): the byte at PC, then PC + 1. -/
def fetch8 (s : State) : Res Byte :=
  (rd8 s.pc s).andThen fun v s' => .ok v { s' with pc := s'.pc + 1 }

/-! ## The stack (R220) -/

/-- `push16(v)`: the high byte, then the low byte, SP decremented before each write. -/
def push16 (v : Word) (s : State) : Res Unit :=
  let s1 := { s with sp := s.sp - 1 }
  (wr8 s1.sp (hi8 v) s1).andThen fun _ s2 =>
    let s3 := { s2 with sp := s2.sp - 1 }
    wr8 s3.sp (lo8 v) s3

/-- `pop16()`: the low byte, then the high byte, SP incremented after each read. -/
def pop16 (s : State) : Res Word :=
  (rd8 s.sp s).andThen fun lo s1 =>
    let s2 := { s1 with sp := s1.sp + 1 }
    (rd8 s2.sp s2).andThen fun hi s3 => .ok (word hi lo) { s3 with sp := s3.sp + 1 }

/-! ## The interrupt delay line (R141) and conditions (R274) -/

/-- Resolve: the pending flag, if any, is applied to IME, and both are cleared (R141). -/
def State.resolve (s : State) : State :=
  let ime1 := if s.pendDi then false else s.ime
  let ime2 := if s.pendEi then true else ime1
  { s with ime := ime2, pendDi := false, pendEi := false }

/-- Taking a condition (R274), the one exception entry of CORE: the state at the failure point stays as it is and the
condition is latched in FAULT. Nothing is saved, no mode changes, PC is not redirected. There is no return from it
(R275): no operation clears FAULT. DEDUCED, safe: log entry 1. -/
def takeCondition (e : Fault) (s : State) : State := { s with fault := some e }

/-- The end of a meaning: its last state, or the state after taking the condition it raised. -/
def Res.finish (r : Res Unit) : Host.Outcome State Fault Refusal :=
  match r with
  | .ok _ s => .next s
  | .raise e s => .next (takeCondition e s)

end Sys2Proof.Machine
end

