-- ==== Sys2Proof/Machine/Alu.lean ====
section
/-! DEFINITION. Arithmetic, logical and compare instructions (42_alu.md, R190 to R209): the shared operation with its
three operand forms, then one meaning per instruction. -/

namespace Sys2Proof.Machine

/-- The two-operand operation `op` on A and `v`: all four flags, and A unless the operation is `CP` (R190). -/
def aluApply (op : AluOp) (v : Byte) (s : State) : State :=
  let o := aluOut s.cfg op s.a v
  let s' := s.setFlags o.z o.n o.h o.c
  if op.writesA then s'.setReg .a o.value else s'

/-- The register form. -/
def aluReg (op : AluOp) (r : Reg8) (s : State) : Host.Outcome State Fault Refusal :=
  .next (aluApply op (s.getReg r) s)

/-- The `(HL)` form. -/
def aluAtHl (op : AluOp) (s : State) : Host.Outcome State Fault Refusal :=
  ((rd8 (s.getPair .hl) s).andThen fun v s' => .ok () (aluApply op v s')).finish

/-- The immediate form. -/
def aluImm8 (op : AluOp) (d8 : Byte) (s : State) : Host.Outcome State Fault Refusal :=
  .next (aluApply op d8 s)

/-- `ADD A,B` (R192). -/
def execAddAB (s : State) : Host.Outcome State Fault Refusal :=
  aluReg .add .b s

/-- `ADD A,C` (R192). -/
def execAddAC (s : State) : Host.Outcome State Fault Refusal :=
  aluReg .add .c s

/-- `ADD A,D` (R192). -/
def execAddAD (s : State) : Host.Outcome State Fault Refusal :=
  aluReg .add .d s

/-- `ADD A,E` (R192). -/
def execAddAE (s : State) : Host.Outcome State Fault Refusal :=
  aluReg .add .e s

/-- `ADD A,H` (R192). -/
def execAddAH (s : State) : Host.Outcome State Fault Refusal :=
  aluReg .add .h s

/-- `ADD A,L` (R192). -/
def execAddAL (s : State) : Host.Outcome State Fault Refusal :=
  aluReg .add .l s

/-- `ADD A,(HL)` (R193). -/
def execAddAAtHl (s : State) : Host.Outcome State Fault Refusal :=
  aluAtHl .add s

/-- `ADD A,A` (R192). -/
def execAddAA (s : State) : Host.Outcome State Fault Refusal :=
  aluReg .add .a s

/-- `SUB B` (R195). -/
def execSubB (s : State) : Host.Outcome State Fault Refusal :=
  aluReg .sub .b s

/-- `SUB C` (R195). -/
def execSubC (s : State) : Host.Outcome State Fault Refusal :=
  aluReg .sub .c s

/-- `SUB D` (R195). -/
def execSubD (s : State) : Host.Outcome State Fault Refusal :=
  aluReg .sub .d s

/-- `SUB E` (R195). -/
def execSubE (s : State) : Host.Outcome State Fault Refusal :=
  aluReg .sub .e s

/-- `SUB H` (R195). -/
def execSubH (s : State) : Host.Outcome State Fault Refusal :=
  aluReg .sub .h s

/-- `SUB L` (R195). -/
def execSubL (s : State) : Host.Outcome State Fault Refusal :=
  aluReg .sub .l s

/-- `SUB (HL)` (R196). -/
def execSubAtHl (s : State) : Host.Outcome State Fault Refusal :=
  aluAtHl .sub s

/-- `SUB A` (R195). -/
def execSubA (s : State) : Host.Outcome State Fault Refusal :=
  aluReg .sub .a s

/-- `AND B` (R198). -/
def execAndB (s : State) : Host.Outcome State Fault Refusal :=
  aluReg .and .b s

/-- `AND C` (R198). -/
def execAndC (s : State) : Host.Outcome State Fault Refusal :=
  aluReg .and .c s

/-- `AND D` (R198). -/
def execAndD (s : State) : Host.Outcome State Fault Refusal :=
  aluReg .and .d s

/-- `AND E` (R198). -/
def execAndE (s : State) : Host.Outcome State Fault Refusal :=
  aluReg .and .e s

/-- `AND H` (R198). -/
def execAndH (s : State) : Host.Outcome State Fault Refusal :=
  aluReg .and .h s

/-- `AND L` (R198). -/
def execAndL (s : State) : Host.Outcome State Fault Refusal :=
  aluReg .and .l s

/-- `AND (HL)` (R199). -/
def execAndAtHl (s : State) : Host.Outcome State Fault Refusal :=
  aluAtHl .and s

/-- `AND A` (R198). -/
def execAndA (s : State) : Host.Outcome State Fault Refusal :=
  aluReg .and .a s

/-- `XOR B` (R201). -/
def execXorB (s : State) : Host.Outcome State Fault Refusal :=
  aluReg .xor .b s

/-- `XOR C` (R201). -/
def execXorC (s : State) : Host.Outcome State Fault Refusal :=
  aluReg .xor .c s

/-- `XOR D` (R201). -/
def execXorD (s : State) : Host.Outcome State Fault Refusal :=
  aluReg .xor .d s

/-- `XOR E` (R201). -/
def execXorE (s : State) : Host.Outcome State Fault Refusal :=
  aluReg .xor .e s

/-- `XOR H` (R201). -/
def execXorH (s : State) : Host.Outcome State Fault Refusal :=
  aluReg .xor .h s

/-- `XOR L` (R201). -/
def execXorL (s : State) : Host.Outcome State Fault Refusal :=
  aluReg .xor .l s

/-- `XOR (HL)` (R202). -/
def execXorAtHl (s : State) : Host.Outcome State Fault Refusal :=
  aluAtHl .xor s

/-- `XOR A` (R201). -/
def execXorA (s : State) : Host.Outcome State Fault Refusal :=
  aluReg .xor .a s

/-- `OR B` (R204). -/
def execOrB (s : State) : Host.Outcome State Fault Refusal :=
  aluReg .or .b s

/-- `OR C` (R204). -/
def execOrC (s : State) : Host.Outcome State Fault Refusal :=
  aluReg .or .c s

/-- `OR D` (R204). -/
def execOrD (s : State) : Host.Outcome State Fault Refusal :=
  aluReg .or .d s

/-- `OR E` (R204). -/
def execOrE (s : State) : Host.Outcome State Fault Refusal :=
  aluReg .or .e s

/-- `OR H` (R204). -/
def execOrH (s : State) : Host.Outcome State Fault Refusal :=
  aluReg .or .h s

/-- `OR L` (R204). -/
def execOrL (s : State) : Host.Outcome State Fault Refusal :=
  aluReg .or .l s

/-- `OR (HL)` (R205). -/
def execOrAtHl (s : State) : Host.Outcome State Fault Refusal :=
  aluAtHl .or s

/-- `OR A` (R204). -/
def execOrA (s : State) : Host.Outcome State Fault Refusal :=
  aluReg .or .a s

/-- `CP B` (R207). -/
def execCpB (s : State) : Host.Outcome State Fault Refusal :=
  aluReg .cp .b s

/-- `CP C` (R207). -/
def execCpC (s : State) : Host.Outcome State Fault Refusal :=
  aluReg .cp .c s

/-- `CP D` (R207). -/
def execCpD (s : State) : Host.Outcome State Fault Refusal :=
  aluReg .cp .d s

/-- `CP E` (R207). -/
def execCpE (s : State) : Host.Outcome State Fault Refusal :=
  aluReg .cp .e s

/-- `CP H` (R207). -/
def execCpH (s : State) : Host.Outcome State Fault Refusal :=
  aluReg .cp .h s

/-- `CP L` (R207). -/
def execCpL (s : State) : Host.Outcome State Fault Refusal :=
  aluReg .cp .l s

/-- `CP (HL)` (R208). -/
def execCpAtHl (s : State) : Host.Outcome State Fault Refusal :=
  aluAtHl .cp s

/-- `CP A` (R207). -/
def execCpA (s : State) : Host.Outcome State Fault Refusal :=
  aluReg .cp .a s

/-- `ADD A,d8` (R194). -/
def execAddAD8 (d8 : Byte) (s : State) : Host.Outcome State Fault Refusal :=
  aluImm8 .add d8 s

/-- `SUB d8` (R197). -/
def execSubD8 (d8 : Byte) (s : State) : Host.Outcome State Fault Refusal :=
  aluImm8 .sub d8 s

/-- `AND d8` (R200). -/
def execAndD8 (d8 : Byte) (s : State) : Host.Outcome State Fault Refusal :=
  aluImm8 .and d8 s

/-- `XOR d8` (R203). -/
def execXorD8 (d8 : Byte) (s : State) : Host.Outcome State Fault Refusal :=
  aluImm8 .xor d8 s

/-- `OR d8` (R206). -/
def execOrD8 (d8 : Byte) (s : State) : Host.Outcome State Fault Refusal :=
  aluImm8 .or d8 s

/-- `CP d8` (R209). -/
def execCpD8 (d8 : Byte) (s : State) : Host.Outcome State Fault Refusal :=
  aluImm8 .cp d8 s

end Sys2Proof.Machine
end

