-- ==== Sys2Proof/Machine/IncDec.lean ====
section
/-! DEFINITION. INC and DEC (42_alu.md, R210 to R213): the two operand forms, then one meaning per instruction. -/

namespace Sys2Proof.Machine

/-- A one-operand operation on a register: all four flags, then the register (R210, R212). -/
def stepReg (out : Byte → AluOut) (r : Reg8) (s : State) : Host.Outcome State Fault Refusal :=
  let o := out (s.getReg r)
  .next ((s.setFlags o.z o.n o.h o.c).setReg r o.value)

/-- A one-operand operation on the byte at HL: the read, the flags, then the store (R211, R213). -/
def stepAtHl (out : Byte → AluOut) (s : State) : Host.Outcome State Fault Refusal :=
  let p := s.getPair .hl
  ((rd8 p s).andThen fun v s' =>
    let o := out v
    wr8 p o.value (s'.setFlags o.z o.n o.h o.c)).finish

/-- `INC B` (R210). -/
def execIncB (s : State) : Host.Outcome State Fault Refusal :=
  stepReg incOut .b s

/-- `DEC B` (R212). -/
def execDecB (s : State) : Host.Outcome State Fault Refusal :=
  stepReg (decOut s.cfg) .b s

/-- `INC C` (R210). -/
def execIncC (s : State) : Host.Outcome State Fault Refusal :=
  stepReg incOut .c s

/-- `DEC C` (R212). -/
def execDecC (s : State) : Host.Outcome State Fault Refusal :=
  stepReg (decOut s.cfg) .c s

/-- `INC D` (R210). -/
def execIncD (s : State) : Host.Outcome State Fault Refusal :=
  stepReg incOut .d s

/-- `DEC D` (R212). -/
def execDecD (s : State) : Host.Outcome State Fault Refusal :=
  stepReg (decOut s.cfg) .d s

/-- `INC E` (R210). -/
def execIncE (s : State) : Host.Outcome State Fault Refusal :=
  stepReg incOut .e s

/-- `DEC E` (R212). -/
def execDecE (s : State) : Host.Outcome State Fault Refusal :=
  stepReg (decOut s.cfg) .e s

/-- `INC H` (R210). -/
def execIncH (s : State) : Host.Outcome State Fault Refusal :=
  stepReg incOut .h s

/-- `DEC H` (R212). -/
def execDecH (s : State) : Host.Outcome State Fault Refusal :=
  stepReg (decOut s.cfg) .h s

/-- `INC L` (R210). -/
def execIncL (s : State) : Host.Outcome State Fault Refusal :=
  stepReg incOut .l s

/-- `DEC L` (R212). -/
def execDecL (s : State) : Host.Outcome State Fault Refusal :=
  stepReg (decOut s.cfg) .l s

/-- `INC (HL)` (R211). -/
def execIncAtHl (s : State) : Host.Outcome State Fault Refusal :=
  stepAtHl incOut s

/-- `DEC (HL)` (R213). -/
def execDecAtHl (s : State) : Host.Outcome State Fault Refusal :=
  stepAtHl (decOut s.cfg) s

/-- `INC A` (R210). -/
def execIncA (s : State) : Host.Outcome State Fault Refusal :=
  stepReg incOut .a s

/-- `DEC A` (R212). -/
def execDecA (s : State) : Host.Outcome State Fault Refusal :=
  stepReg (decOut s.cfg) .a s

end Sys2Proof.Machine
end

