-- ==== Sys2Proof/Machine/Loads.lean ====
section
/-! DEFINITION. Load and store instructions (41_loads.md): the shared operation of each rule, then one meaning per
instruction. A meaning starts after all bytes of the instruction are fetched: PC is past it and M, T count its fetches. -/

namespace Sys2Proof.Machine

/-- `LD r,d8` (R160). -/
def loadImm8 (r : Reg8) (d8 : Byte) (s : State) : Host.Outcome State Fault Refusal :=
  .next (s.setReg r d8)

/-- `LD (HL),d8` (R161). -/
def storeImm8 (d8 : Byte) (s : State) : Host.Outcome State Fault Refusal :=
  (wr8 (s.getPair .hl) d8 s).finish

/-- `LD rr,d16` for a register pair (R162). -/
def loadPairImm16 (p : Pair) (b1 b2 : Byte) (s : State) : Host.Outcome State Fault Refusal :=
  .next (s.setPair p (imm16 s.cfg.imm16Order b1 b2))

/-- `LD SP,d16` (R162). -/
def loadSpImm16 (b1 b2 : Byte) (s : State) : Host.Outcome State Fault Refusal :=
  .next { s with sp := imm16 s.cfg.imm16Order b1 b2 }

/-- `LD r,r'` (R163). -/
def loadReg (r r' : Reg8) (s : State) : Host.Outcome State Fault Refusal :=
  .next (s.setReg r (s.getReg r'))

/-- `LD r,(HL)` (R164): the address is formed before the register is written. -/
def loadAtHl (r : Reg8) (s : State) : Host.Outcome State Fault Refusal :=
  ((rd8 (s.getPair .hl) s).andThen fun v s' => .ok () (s'.setReg r v)).finish

/-- `LD (HL),r` (R165). -/
def storeReg (r : Reg8) (s : State) : Host.Outcome State Fault Refusal :=
  (wr8 (s.getPair .hl) (s.getReg r) s).finish

/-- `LD (a16),A` (R166). -/
def storeAbsolute (b1 b2 : Byte) (s : State) : Host.Outcome State Fault Refusal :=
  (wr8 (imm16 s.cfg.imm16Order b1 b2) s.a s).finish

/-- `LD HL,SP+r8` (R167): H and C are the add formulas on SP's low byte and the unsigned byte. -/
def loadHlSpOffset (r8 : Byte) (s : State) : Host.Outcome State Fault Refusal :=
  .next (((s.setPair .hl (s.sp + sext16 r8)).setFlags false false (hcAdd (lo8 s.sp) r8) (cAdd (lo8 s.sp) r8)).tick
    (s.cfg.extraCycles 0xF8))

/-- `LD BC,d16` (R162). -/
def execLdBcD16 (b1 b2 : Byte) (s : State) : Host.Outcome State Fault Refusal :=
  loadPairImm16 .bc b1 b2 s

/-- `LD B,d8` (R160). -/
def execLdBD8 (d8 : Byte) (s : State) : Host.Outcome State Fault Refusal :=
  loadImm8 .b d8 s

/-- `LD C,d8` (R160). -/
def execLdCD8 (d8 : Byte) (s : State) : Host.Outcome State Fault Refusal :=
  loadImm8 .c d8 s

/-- `LD DE,d16` (R162). -/
def execLdDeD16 (b1 b2 : Byte) (s : State) : Host.Outcome State Fault Refusal :=
  loadPairImm16 .de b1 b2 s

/-- `LD D,d8` (R160). -/
def execLdDD8 (d8 : Byte) (s : State) : Host.Outcome State Fault Refusal :=
  loadImm8 .d d8 s

/-- `LD E,d8` (R160). -/
def execLdED8 (d8 : Byte) (s : State) : Host.Outcome State Fault Refusal :=
  loadImm8 .e d8 s

/-- `LD HL,d16` (R162). -/
def execLdHlD16 (b1 b2 : Byte) (s : State) : Host.Outcome State Fault Refusal :=
  loadPairImm16 .hl b1 b2 s

/-- `LD H,d8` (R160). -/
def execLdHD8 (d8 : Byte) (s : State) : Host.Outcome State Fault Refusal :=
  loadImm8 .h d8 s

/-- `LD L,d8` (R160). -/
def execLdLD8 (d8 : Byte) (s : State) : Host.Outcome State Fault Refusal :=
  loadImm8 .l d8 s

/-- `LD SP,d16` (R162). -/
def execLdSpD16 (b1 b2 : Byte) (s : State) : Host.Outcome State Fault Refusal :=
  loadSpImm16 b1 b2 s

/-- `LD (HL),d8` (R161). -/
def execLdAtHlD8 (d8 : Byte) (s : State) : Host.Outcome State Fault Refusal :=
  storeImm8 d8 s

/-- `LD A,d8` (R160). -/
def execLdAD8 (d8 : Byte) (s : State) : Host.Outcome State Fault Refusal :=
  loadImm8 .a d8 s

/-- `LD B,B` (R163). -/
def execLdBB (s : State) : Host.Outcome State Fault Refusal :=
  loadReg .b .b s

/-- `LD B,C` (R163). -/
def execLdBC (s : State) : Host.Outcome State Fault Refusal :=
  loadReg .b .c s

/-- `LD B,D` (R163). -/
def execLdBD (s : State) : Host.Outcome State Fault Refusal :=
  loadReg .b .d s

/-- `LD B,E` (R163). -/
def execLdBE (s : State) : Host.Outcome State Fault Refusal :=
  loadReg .b .e s

/-- `LD B,H` (R163). -/
def execLdBH (s : State) : Host.Outcome State Fault Refusal :=
  loadReg .b .h s

/-- `LD B,L` (R163). -/
def execLdBL (s : State) : Host.Outcome State Fault Refusal :=
  loadReg .b .l s

/-- `LD B,(HL)` (R164). -/
def execLdBAtHl (s : State) : Host.Outcome State Fault Refusal :=
  loadAtHl .b s

/-- `LD B,A` (R163). -/
def execLdBA (s : State) : Host.Outcome State Fault Refusal :=
  loadReg .b .a s

/-- `LD C,B` (R163). -/
def execLdCB (s : State) : Host.Outcome State Fault Refusal :=
  loadReg .c .b s

/-- `LD C,C` (R163). -/
def execLdCC (s : State) : Host.Outcome State Fault Refusal :=
  loadReg .c .c s

/-- `LD C,D` (R163). -/
def execLdCD (s : State) : Host.Outcome State Fault Refusal :=
  loadReg .c .d s

/-- `LD C,E` (R163). -/
def execLdCE (s : State) : Host.Outcome State Fault Refusal :=
  loadReg .c .e s

/-- `LD C,H` (R163). -/
def execLdCH (s : State) : Host.Outcome State Fault Refusal :=
  loadReg .c .h s

/-- `LD C,L` (R163). -/
def execLdCL (s : State) : Host.Outcome State Fault Refusal :=
  loadReg .c .l s

/-- `LD C,(HL)` (R164). -/
def execLdCAtHl (s : State) : Host.Outcome State Fault Refusal :=
  loadAtHl .c s

/-- `LD C,A` (R163). -/
def execLdCA (s : State) : Host.Outcome State Fault Refusal :=
  loadReg .c .a s

/-- `LD D,B` (R163). -/
def execLdDB (s : State) : Host.Outcome State Fault Refusal :=
  loadReg .d .b s

/-- `LD D,C` (R163). -/
def execLdDC (s : State) : Host.Outcome State Fault Refusal :=
  loadReg .d .c s

/-- `LD D,D` (R163). -/
def execLdDD (s : State) : Host.Outcome State Fault Refusal :=
  loadReg .d .d s

/-- `LD D,E` (R163). -/
def execLdDE (s : State) : Host.Outcome State Fault Refusal :=
  loadReg .d .e s

/-- `LD D,H` (R163). -/
def execLdDH (s : State) : Host.Outcome State Fault Refusal :=
  loadReg .d .h s

/-- `LD D,L` (R163). -/
def execLdDL (s : State) : Host.Outcome State Fault Refusal :=
  loadReg .d .l s

/-- `LD D,(HL)` (R164). -/
def execLdDAtHl (s : State) : Host.Outcome State Fault Refusal :=
  loadAtHl .d s

/-- `LD D,A` (R163). -/
def execLdDA (s : State) : Host.Outcome State Fault Refusal :=
  loadReg .d .a s

/-- `LD E,B` (R163). -/
def execLdEB (s : State) : Host.Outcome State Fault Refusal :=
  loadReg .e .b s

/-- `LD E,C` (R163). -/
def execLdEC (s : State) : Host.Outcome State Fault Refusal :=
  loadReg .e .c s

/-- `LD E,D` (R163). -/
def execLdED (s : State) : Host.Outcome State Fault Refusal :=
  loadReg .e .d s

/-- `LD E,E` (R163). -/
def execLdEE (s : State) : Host.Outcome State Fault Refusal :=
  loadReg .e .e s

/-- `LD E,H` (R163). -/
def execLdEH (s : State) : Host.Outcome State Fault Refusal :=
  loadReg .e .h s

/-- `LD E,L` (R163). -/
def execLdEL (s : State) : Host.Outcome State Fault Refusal :=
  loadReg .e .l s

/-- `LD E,(HL)` (R164). -/
def execLdEAtHl (s : State) : Host.Outcome State Fault Refusal :=
  loadAtHl .e s

/-- `LD E,A` (R163). -/
def execLdEA (s : State) : Host.Outcome State Fault Refusal :=
  loadReg .e .a s

/-- `LD H,B` (R163). -/
def execLdHB (s : State) : Host.Outcome State Fault Refusal :=
  loadReg .h .b s

/-- `LD H,C` (R163). -/
def execLdHC (s : State) : Host.Outcome State Fault Refusal :=
  loadReg .h .c s

/-- `LD H,D` (R163). -/
def execLdHD (s : State) : Host.Outcome State Fault Refusal :=
  loadReg .h .d s

/-- `LD H,E` (R163). -/
def execLdHE (s : State) : Host.Outcome State Fault Refusal :=
  loadReg .h .e s

/-- `LD H,H` (R163). -/
def execLdHH (s : State) : Host.Outcome State Fault Refusal :=
  loadReg .h .h s

/-- `LD H,L` (R163). -/
def execLdHL (s : State) : Host.Outcome State Fault Refusal :=
  loadReg .h .l s

/-- `LD H,(HL)` (R164). -/
def execLdHAtHl (s : State) : Host.Outcome State Fault Refusal :=
  loadAtHl .h s

/-- `LD H,A` (R163). -/
def execLdHA (s : State) : Host.Outcome State Fault Refusal :=
  loadReg .h .a s

/-- `LD L,B` (R163). -/
def execLdLB (s : State) : Host.Outcome State Fault Refusal :=
  loadReg .l .b s

/-- `LD L,C` (R163). -/
def execLdLC (s : State) : Host.Outcome State Fault Refusal :=
  loadReg .l .c s

/-- `LD L,D` (R163). -/
def execLdLD (s : State) : Host.Outcome State Fault Refusal :=
  loadReg .l .d s

/-- `LD L,E` (R163). -/
def execLdLE (s : State) : Host.Outcome State Fault Refusal :=
  loadReg .l .e s

/-- `LD L,H` (R163). -/
def execLdLH (s : State) : Host.Outcome State Fault Refusal :=
  loadReg .l .h s

/-- `LD L,L` (R163). -/
def execLdLL (s : State) : Host.Outcome State Fault Refusal :=
  loadReg .l .l s

/-- `LD L,(HL)` (R164). -/
def execLdLAtHl (s : State) : Host.Outcome State Fault Refusal :=
  loadAtHl .l s

/-- `LD L,A` (R163). -/
def execLdLA (s : State) : Host.Outcome State Fault Refusal :=
  loadReg .l .a s

/-- `LD (HL),B` (R165). -/
def execLdAtHlB (s : State) : Host.Outcome State Fault Refusal :=
  storeReg .b s

/-- `LD (HL),C` (R165). -/
def execLdAtHlC (s : State) : Host.Outcome State Fault Refusal :=
  storeReg .c s

/-- `LD (HL),D` (R165). -/
def execLdAtHlD (s : State) : Host.Outcome State Fault Refusal :=
  storeReg .d s

/-- `LD (HL),E` (R165). -/
def execLdAtHlE (s : State) : Host.Outcome State Fault Refusal :=
  storeReg .e s

/-- `LD (HL),H` (R165). -/
def execLdAtHlH (s : State) : Host.Outcome State Fault Refusal :=
  storeReg .h s

/-- `LD (HL),L` (R165). -/
def execLdAtHlL (s : State) : Host.Outcome State Fault Refusal :=
  storeReg .l s

/-- `LD (HL),A` (R165). -/
def execLdAtHlA (s : State) : Host.Outcome State Fault Refusal :=
  storeReg .a s

/-- `LD A,B` (R163). -/
def execLdAB (s : State) : Host.Outcome State Fault Refusal :=
  loadReg .a .b s

/-- `LD A,C` (R163). -/
def execLdAC (s : State) : Host.Outcome State Fault Refusal :=
  loadReg .a .c s

/-- `LD A,D` (R163). -/
def execLdAD (s : State) : Host.Outcome State Fault Refusal :=
  loadReg .a .d s

/-- `LD A,E` (R163). -/
def execLdAE (s : State) : Host.Outcome State Fault Refusal :=
  loadReg .a .e s

/-- `LD A,H` (R163). -/
def execLdAH (s : State) : Host.Outcome State Fault Refusal :=
  loadReg .a .h s

/-- `LD A,L` (R163). -/
def execLdAL (s : State) : Host.Outcome State Fault Refusal :=
  loadReg .a .l s

/-- `LD A,(HL)` (R164). -/
def execLdAAtHl (s : State) : Host.Outcome State Fault Refusal :=
  loadAtHl .a s

/-- `LD A,A` (R163). -/
def execLdAA (s : State) : Host.Outcome State Fault Refusal :=
  loadReg .a .a s

/-- `LD (a16),A` (R166). -/
def execLdAtA16A (b1 b2 : Byte) (s : State) : Host.Outcome State Fault Refusal :=
  storeAbsolute b1 b2 s

/-- `LD HL,SP+r8` (R167). -/
def execLdHlSpR8 (r8 : Byte) (s : State) : Host.Outcome State Fault Refusal :=
  loadHlSpOffset r8 s

end Sys2Proof.Machine
end

