-- ==== Sys2Proof/Machine/Stack.lean ====
section
/-! DEFINITION. Stack, call and return (43_stack_control.md, R220 to R225): the shared operations, then one meaning
per instruction. -/

namespace Sys2Proof.Machine

/-- `PUSH rr` (R221): the extra cycle of the opcode, then the push. -/
def pushPair (op : Byte) (p : Pair) (s : State) : Host.Outcome State Fault Refusal :=
  (push16 (s.getPair p) (s.tick (s.cfg.extraCycles op))).finish

/-- `POP rr` (R222): the pair is written only after both reads. -/
def popPair (p : Pair) (s : State) : Host.Outcome State Fault Refusal :=
  ((pop16 s).andThen fun v s' => .ok () (s'.setPair p v)).finish

/-- `CALL a16` (R223): PC, past the operand bytes, is the return address; it changes only after both writes. -/
def callAbsolute (b1 b2 : Byte) (s : State) : Host.Outcome State Fault Refusal :=
  let target := imm16 s.cfg.imm16Order b1 b2
  ((push16 s.pc (s.tick (s.cfg.extraCycles 0xCD))).andThen fun _ s' => .ok () { s' with pc := target }).finish

/-- `RET` (R224). -/
def returnFromCall (s : State) : Host.Outcome State Fault Refusal :=
  ((pop16 s).andThen fun target s' => .ok () { s'.tick (s'.cfg.extraCycles 0xC9) with pc := target }).finish

/-- `POP BC` (R222). -/
def execPopBc (s : State) : Host.Outcome State Fault Refusal :=
  popPair .bc s

/-- `PUSH BC` (R221). -/
def execPushBc (s : State) : Host.Outcome State Fault Refusal :=
  pushPair 0xC5 .bc s

/-- `RET` (R224). -/
def execRet (s : State) : Host.Outcome State Fault Refusal :=
  returnFromCall s

/-- `CALL a16` (R223). -/
def execCallA16 (b1 b2 : Byte) (s : State) : Host.Outcome State Fault Refusal :=
  callAbsolute b1 b2 s

/-- `POP DE` (R222). -/
def execPopDe (s : State) : Host.Outcome State Fault Refusal :=
  popPair .de s

/-- `PUSH DE` (R221). -/
def execPushDe (s : State) : Host.Outcome State Fault Refusal :=
  pushPair 0xD5 .de s

/-- `POP HL` (R222). -/
def execPopHl (s : State) : Host.Outcome State Fault Refusal :=
  popPair .hl s

/-- `PUSH HL` (R221). -/
def execPushHl (s : State) : Host.Outcome State Fault Refusal :=
  pushPair 0xE5 .hl s

end Sys2Proof.Machine
end

