-- ==== Sys2Proof/Machine/Toggles.lean ====
section
/-! DEFINITION. The interrupt-enable toggles DI and EI (43_stack_control.md, R226, R227). -/

namespace Sys2Proof.Machine

/-- `DI` (R226). -/
def execDi (s : State) : Host.Outcome State Fault Refusal :=
  .next { s with pendDi := true, pendEi := false }

/-- `EI` (R227). -/
def execEi (s : State) : Host.Outcome State Fault Refusal :=
  .next { s with pendEi := true, pendDi := false }

end Sys2Proof.Machine
end

