-- ==== Sys2Proof/Syntax.lean ====
section
/-! DEFINITION. The instructions: one constructor per row of the opcode table (R114 to R117, R122). An operand is the
byte the instruction stream gives: `d8`, `r8`, the two bytes `b1` and `b2` of a 16-bit immediate in stream order (R111 to
R113), or the whole second opcode byte `op2` of an extended row (R122). -/

namespace Sys2Proof

/-- The CORE instruction set (R115, R116): first the rows with an operand, then those without, each in table order (the
runtime numbers at most 244 constructors that carry data). -/
inductive Instr where
  /-- Byte 0x01, `LD BC,d16` (R162). -/
  | ldBcD16 (b1 b2 : Byte)
  /-- Byte 0x06, `LD B,d8` (R160). -/
  | ldBD8 (d8 : Byte)
  /-- Byte 0x0E, `LD C,d8` (R160). -/
  | ldCD8 (d8 : Byte)
  /-- Byte 0x11, `LD DE,d16` (R162). -/
  | ldDeD16 (b1 b2 : Byte)
  /-- Byte 0x16, `LD D,d8` (R160). -/
  | ldDD8 (d8 : Byte)
  /-- Byte 0x1E, `LD E,d8` (R160). -/
  | ldED8 (d8 : Byte)
  /-- Byte 0x21, `LD HL,d16` (R162). -/
  | ldHlD16 (b1 b2 : Byte)
  /-- Byte 0x26, `LD H,d8` (R160). -/
  | ldHD8 (d8 : Byte)
  /-- Byte 0x2E, `LD L,d8` (R160). -/
  | ldLD8 (d8 : Byte)
  /-- Byte 0x31, `LD SP,d16` (R162). -/
  | ldSpD16 (b1 b2 : Byte)
  /-- Byte 0x36, `LD (HL),d8` (R161). -/
  | ldAtHlD8 (d8 : Byte)
  /-- Byte 0x3E, `LD A,d8` (R160). -/
  | ldAD8 (d8 : Byte)
  /-- Byte 0xC6, `ADD A,d8` (R194). -/
  | addAD8 (d8 : Byte)
  /-- Byte 0xCD, `CALL a16` (R223). -/
  | callA16 (b1 b2 : Byte)
  /-- Byte 0xD6, `SUB d8` (R197). -/
  | subD8 (d8 : Byte)
  /-- Byte 0xE6, `AND d8` (R200). -/
  | andD8 (d8 : Byte)
  /-- Byte 0xEA, `LD (a16),A` (R166). -/
  | ldAtA16A (b1 b2 : Byte)
  /-- Byte 0xEE, `XOR d8` (R203). -/
  | xorD8 (d8 : Byte)
  /-- Byte 0xF6, `OR d8` (R206). -/
  | orD8 (d8 : Byte)
  /-- Byte 0xF8, `LD HL,SP+r8` (R167). -/
  | ldHlSpR8 (r8 : Byte)
  /-- Byte 0xFE, `CP d8` (R209). -/
  | cpD8 (d8 : Byte)
  /-- Extended entries 0x00..0x07 (R145). -/
  | unimplCb00To07 (op2 : Byte)
  /-- Extended entries 0x08..0x0F (R145). -/
  | unimplCb08To0F (op2 : Byte)
  /-- Extended entries 0x10..0x17 (R145). -/
  | unimplCb10To17 (op2 : Byte)
  /-- Extended entries 0x18..0x1F (R145). -/
  | unimplCb18To1F (op2 : Byte)
  /-- Extended entries 0x20..0x27 (R145). -/
  | unimplCb20To27 (op2 : Byte)
  /-- Extended entries 0x28..0x2F (R145). -/
  | unimplCb28To2F (op2 : Byte)
  /-- Extended entries 0x30..0x37 (R145). -/
  | unimplCb30To37 (op2 : Byte)
  /-- Extended entries 0x38..0x3F (R145). -/
  | unimplCb38To3F (op2 : Byte)
  /-- Extended entries 0x40..0x47 (R145). -/
  | unimplCb40To47 (op2 : Byte)
  /-- Extended entries 0x48..0x4F (R145). -/
  | unimplCb48To4F (op2 : Byte)
  /-- Extended entries 0x50..0x57 (R145). -/
  | unimplCb50To57 (op2 : Byte)
  /-- Extended entries 0x58..0x5F (R145). -/
  | unimplCb58To5F (op2 : Byte)
  /-- Extended entries 0x60..0x67 (R145). -/
  | unimplCb60To67 (op2 : Byte)
  /-- Extended entries 0x68..0x6F (R145). -/
  | unimplCb68To6F (op2 : Byte)
  /-- Extended entries 0x70..0x77 (R145). -/
  | unimplCb70To77 (op2 : Byte)
  /-- Extended entries 0x78..0x7F (R145). -/
  | unimplCb78To7F (op2 : Byte)
  /-- Extended entries 0x80..0x87 (R145). -/
  | unimplCb80To87 (op2 : Byte)
  /-- Extended entries 0x88..0x8F (R145). -/
  | unimplCb88To8F (op2 : Byte)
  /-- Extended entries 0x90..0x97 (R145). -/
  | unimplCb90To97 (op2 : Byte)
  /-- Extended entries 0x98..0x9F (R145). -/
  | unimplCb98To9F (op2 : Byte)
  /-- Extended entries 0xA0..0xA7 (R145). -/
  | unimplCbA0ToA7 (op2 : Byte)
  /-- Extended entries 0xA8..0xAF (R145). -/
  | unimplCbA8ToAF (op2 : Byte)
  /-- Extended entries 0xB0..0xB7 (R145). -/
  | unimplCbB0ToB7 (op2 : Byte)
  /-- Extended entries 0xB8..0xBF (R145). -/
  | unimplCbB8ToBF (op2 : Byte)
  /-- Extended entries 0xC0..0xC7 (R145). -/
  | unimplCbC0ToC7 (op2 : Byte)
  /-- Extended entries 0xC8..0xCF (R145). -/
  | unimplCbC8ToCF (op2 : Byte)
  /-- Extended entries 0xD0..0xD7 (R145). -/
  | unimplCbD0ToD7 (op2 : Byte)
  /-- Extended entries 0xD8..0xDF (R145). -/
  | unimplCbD8ToDF (op2 : Byte)
  /-- Extended entries 0xE0..0xE7 (R145). -/
  | unimplCbE0ToE7 (op2 : Byte)
  /-- Extended entries 0xE8..0xEF (R145). -/
  | unimplCbE8ToEF (op2 : Byte)
  /-- Extended entries 0xF0..0xF7 (R145). -/
  | unimplCbF0ToF7 (op2 : Byte)
  /-- Extended entries 0xF8..0xFF (R145). -/
  | unimplCbF8ToFF (op2 : Byte)
  /-- Byte 0x00, an unimplemented entry (R144). -/
  | unimpl00
  /-- Byte 0x02, an unimplemented entry (R144). -/
  | unimpl02
  /-- Byte 0x03, an unimplemented entry (R144). -/
  | unimpl03
  /-- Byte 0x04, `INC B` (R210). -/
  | incB
  /-- Byte 0x05, `DEC B` (R212). -/
  | decB
  /-- Byte 0x07, an unimplemented entry (R144). -/
  | unimpl07
  /-- Byte 0x08, an unimplemented entry (R144). -/
  | unimpl08
  /-- Byte 0x09, an unimplemented entry (R144). -/
  | unimpl09
  /-- Byte 0x0A, an unimplemented entry (R144). -/
  | unimpl0A
  /-- Byte 0x0B, an unimplemented entry (R144). -/
  | unimpl0B
  /-- Byte 0x0C, `INC C` (R210). -/
  | incC
  /-- Byte 0x0D, `DEC C` (R212). -/
  | decC
  /-- Byte 0x0F, an unimplemented entry (R144). -/
  | unimpl0F
  /-- Byte 0x10, an unimplemented entry (R144). -/
  | unimpl10
  /-- Byte 0x12, an unimplemented entry (R144). -/
  | unimpl12
  /-- Byte 0x13, an unimplemented entry (R144). -/
  | unimpl13
  /-- Byte 0x14, `INC D` (R210). -/
  | incD
  /-- Byte 0x15, `DEC D` (R212). -/
  | decD
  /-- Byte 0x17, an unimplemented entry (R144). -/
  | unimpl17
  /-- Byte 0x18, an unimplemented entry (R144). -/
  | unimpl18
  /-- Byte 0x19, an unimplemented entry (R144). -/
  | unimpl19
  /-- Byte 0x1A, an unimplemented entry (R144). -/
  | unimpl1A
  /-- Byte 0x1B, an unimplemented entry (R144). -/
  | unimpl1B
  /-- Byte 0x1C, `INC E` (R210). -/
  | incE
  /-- Byte 0x1D, `DEC E` (R212). -/
  | decE
  /-- Byte 0x1F, an unimplemented entry (R144). -/
  | unimpl1F
  /-- Byte 0x20, an unimplemented entry (R144). -/
  | unimpl20
  /-- Byte 0x22, an unimplemented entry (R144). -/
  | unimpl22
  /-- Byte 0x23, an unimplemented entry (R144). -/
  | unimpl23
  /-- Byte 0x24, `INC H` (R210). -/
  | incH
  /-- Byte 0x25, `DEC H` (R212). -/
  | decH
  /-- Byte 0x27, an unimplemented entry (R144). -/
  | unimpl27
  /-- Byte 0x28, an unimplemented entry (R144). -/
  | unimpl28
  /-- Byte 0x29, an unimplemented entry (R144). -/
  | unimpl29
  /-- Byte 0x2A, an unimplemented entry (R144). -/
  | unimpl2A
  /-- Byte 0x2B, an unimplemented entry (R144). -/
  | unimpl2B
  /-- Byte 0x2C, `INC L` (R210). -/
  | incL
  /-- Byte 0x2D, `DEC L` (R212). -/
  | decL
  /-- Byte 0x2F, an unimplemented entry (R144). -/
  | unimpl2F
  /-- Byte 0x30, an unimplemented entry (R144). -/
  | unimpl30
  /-- Byte 0x32, an unimplemented entry (R144). -/
  | unimpl32
  /-- Byte 0x33, an unimplemented entry (R144). -/
  | unimpl33
  /-- Byte 0x34, `INC (HL)` (R211). -/
  | incAtHl
  /-- Byte 0x35, `DEC (HL)` (R213). -/
  | decAtHl
  /-- Byte 0x37, an unimplemented entry (R144). -/
  | unimpl37
  /-- Byte 0x38, an unimplemented entry (R144). -/
  | unimpl38
  /-- Byte 0x39, an unimplemented entry (R144). -/
  | unimpl39
  /-- Byte 0x3A, an unimplemented entry (R144). -/
  | unimpl3A
  /-- Byte 0x3B, an unimplemented entry (R144). -/
  | unimpl3B
  /-- Byte 0x3C, `INC A` (R210). -/
  | incA
  /-- Byte 0x3D, `DEC A` (R212). -/
  | decA
  /-- Byte 0x3F, an unimplemented entry (R144). -/
  | unimpl3F
  /-- Byte 0x40, `LD B,B` (R163). -/
  | ldBB
  /-- Byte 0x41, `LD B,C` (R163). -/
  | ldBC
  /-- Byte 0x42, `LD B,D` (R163). -/
  | ldBD
  /-- Byte 0x43, `LD B,E` (R163). -/
  | ldBE
  /-- Byte 0x44, `LD B,H` (R163). -/
  | ldBH
  /-- Byte 0x45, `LD B,L` (R163). -/
  | ldBL
  /-- Byte 0x46, `LD B,(HL)` (R164). -/
  | ldBAtHl
  /-- Byte 0x47, `LD B,A` (R163). -/
  | ldBA
  /-- Byte 0x48, `LD C,B` (R163). -/
  | ldCB
  /-- Byte 0x49, `LD C,C` (R163). -/
  | ldCC
  /-- Byte 0x4A, `LD C,D` (R163). -/
  | ldCD
  /-- Byte 0x4B, `LD C,E` (R163). -/
  | ldCE
  /-- Byte 0x4C, `LD C,H` (R163). -/
  | ldCH
  /-- Byte 0x4D, `LD C,L` (R163). -/
  | ldCL
  /-- Byte 0x4E, `LD C,(HL)` (R164). -/
  | ldCAtHl
  /-- Byte 0x4F, `LD C,A` (R163). -/
  | ldCA
  /-- Byte 0x50, `LD D,B` (R163). -/
  | ldDB
  /-- Byte 0x51, `LD D,C` (R163). -/
  | ldDC
  /-- Byte 0x52, `LD D,D` (R163). -/
  | ldDD
  /-- Byte 0x53, `LD D,E` (R163). -/
  | ldDE
  /-- Byte 0x54, `LD D,H` (R163). -/
  | ldDH
  /-- Byte 0x55, `LD D,L` (R163). -/
  | ldDL
  /-- Byte 0x56, `LD D,(HL)` (R164). -/
  | ldDAtHl
  /-- Byte 0x57, `LD D,A` (R163). -/
  | ldDA
  /-- Byte 0x58, `LD E,B` (R163). -/
  | ldEB
  /-- Byte 0x59, `LD E,C` (R163). -/
  | ldEC
  /-- Byte 0x5A, `LD E,D` (R163). -/
  | ldED
  /-- Byte 0x5B, `LD E,E` (R163). -/
  | ldEE
  /-- Byte 0x5C, `LD E,H` (R163). -/
  | ldEH
  /-- Byte 0x5D, `LD E,L` (R163). -/
  | ldEL
  /-- Byte 0x5E, `LD E,(HL)` (R164). -/
  | ldEAtHl
  /-- Byte 0x5F, `LD E,A` (R163). -/
  | ldEA
  /-- Byte 0x60, `LD H,B` (R163). -/
  | ldHB
  /-- Byte 0x61, `LD H,C` (R163). -/
  | ldHC
  /-- Byte 0x62, `LD H,D` (R163). -/
  | ldHD
  /-- Byte 0x63, `LD H,E` (R163). -/
  | ldHE
  /-- Byte 0x64, `LD H,H` (R163). -/
  | ldHH
  /-- Byte 0x65, `LD H,L` (R163). -/
  | ldHL
  /-- Byte 0x66, `LD H,(HL)` (R164). -/
  | ldHAtHl
  /-- Byte 0x67, `LD H,A` (R163). -/
  | ldHA
  /-- Byte 0x68, `LD L,B` (R163). -/
  | ldLB
  /-- Byte 0x69, `LD L,C` (R163). -/
  | ldLC
  /-- Byte 0x6A, `LD L,D` (R163). -/
  | ldLD
  /-- Byte 0x6B, `LD L,E` (R163). -/
  | ldLE
  /-- Byte 0x6C, `LD L,H` (R163). -/
  | ldLH
  /-- Byte 0x6D, `LD L,L` (R163). -/
  | ldLL
  /-- Byte 0x6E, `LD L,(HL)` (R164). -/
  | ldLAtHl
  /-- Byte 0x6F, `LD L,A` (R163). -/
  | ldLA
  /-- Byte 0x70, `LD (HL),B` (R165). -/
  | ldAtHlB
  /-- Byte 0x71, `LD (HL),C` (R165). -/
  | ldAtHlC
  /-- Byte 0x72, `LD (HL),D` (R165). -/
  | ldAtHlD
  /-- Byte 0x73, `LD (HL),E` (R165). -/
  | ldAtHlE
  /-- Byte 0x74, `LD (HL),H` (R165). -/
  | ldAtHlH
  /-- Byte 0x75, `LD (HL),L` (R165). -/
  | ldAtHlL
  /-- Byte 0x76, an unimplemented entry (R144). -/
  | unimpl76
  /-- Byte 0x77, `LD (HL),A` (R165). -/
  | ldAtHlA
  /-- Byte 0x78, `LD A,B` (R163). -/
  | ldAB
  /-- Byte 0x79, `LD A,C` (R163). -/
  | ldAC
  /-- Byte 0x7A, `LD A,D` (R163). -/
  | ldAD
  /-- Byte 0x7B, `LD A,E` (R163). -/
  | ldAE
  /-- Byte 0x7C, `LD A,H` (R163). -/
  | ldAH
  /-- Byte 0x7D, `LD A,L` (R163). -/
  | ldAL
  /-- Byte 0x7E, `LD A,(HL)` (R164). -/
  | ldAAtHl
  /-- Byte 0x7F, `LD A,A` (R163). -/
  | ldAA
  /-- Byte 0x80, `ADD A,B` (R192). -/
  | addAB
  /-- Byte 0x81, `ADD A,C` (R192). -/
  | addAC
  /-- Byte 0x82, `ADD A,D` (R192). -/
  | addAD
  /-- Byte 0x83, `ADD A,E` (R192). -/
  | addAE
  /-- Byte 0x84, `ADD A,H` (R192). -/
  | addAH
  /-- Byte 0x85, `ADD A,L` (R192). -/
  | addAL
  /-- Byte 0x86, `ADD A,(HL)` (R193). -/
  | addAAtHl
  /-- Byte 0x87, `ADD A,A` (R192). -/
  | addAA
  /-- Byte 0x88, an unimplemented entry (R144). -/
  | unimpl88
  /-- Byte 0x89, an unimplemented entry (R144). -/
  | unimpl89
  /-- Byte 0x8A, an unimplemented entry (R144). -/
  | unimpl8A
  /-- Byte 0x8B, an unimplemented entry (R144). -/
  | unimpl8B
  /-- Byte 0x8C, an unimplemented entry (R144). -/
  | unimpl8C
  /-- Byte 0x8D, an unimplemented entry (R144). -/
  | unimpl8D
  /-- Byte 0x8E, an unimplemented entry (R144). -/
  | unimpl8E
  /-- Byte 0x8F, an unimplemented entry (R144). -/
  | unimpl8F
  /-- Byte 0x90, `SUB B` (R195). -/
  | subB
  /-- Byte 0x91, `SUB C` (R195). -/
  | subC
  /-- Byte 0x92, `SUB D` (R195). -/
  | subD
  /-- Byte 0x93, `SUB E` (R195). -/
  | subE
  /-- Byte 0x94, `SUB H` (R195). -/
  | subH
  /-- Byte 0x95, `SUB L` (R195). -/
  | subL
  /-- Byte 0x96, `SUB (HL)` (R196). -/
  | subAtHl
  /-- Byte 0x97, `SUB A` (R195). -/
  | subA
  /-- Byte 0x98, an unimplemented entry (R144). -/
  | unimpl98
  /-- Byte 0x99, an unimplemented entry (R144). -/
  | unimpl99
  /-- Byte 0x9A, an unimplemented entry (R144). -/
  | unimpl9A
  /-- Byte 0x9B, an unimplemented entry (R144). -/
  | unimpl9B
  /-- Byte 0x9C, an unimplemented entry (R144). -/
  | unimpl9C
  /-- Byte 0x9D, an unimplemented entry (R144). -/
  | unimpl9D
  /-- Byte 0x9E, an unimplemented entry (R144). -/
  | unimpl9E
  /-- Byte 0x9F, an unimplemented entry (R144). -/
  | unimpl9F
  /-- Byte 0xA0, `AND B` (R198). -/
  | andB
  /-- Byte 0xA1, `AND C` (R198). -/
  | andC
  /-- Byte 0xA2, `AND D` (R198). -/
  | andD
  /-- Byte 0xA3, `AND E` (R198). -/
  | andE
  /-- Byte 0xA4, `AND H` (R198). -/
  | andH
  /-- Byte 0xA5, `AND L` (R198). -/
  | andL
  /-- Byte 0xA6, `AND (HL)` (R199). -/
  | andAtHl
  /-- Byte 0xA7, `AND A` (R198). -/
  | andA
  /-- Byte 0xA8, `XOR B` (R201). -/
  | xorB
  /-- Byte 0xA9, `XOR C` (R201). -/
  | xorC
  /-- Byte 0xAA, `XOR D` (R201). -/
  | xorD
  /-- Byte 0xAB, `XOR E` (R201). -/
  | xorE
  /-- Byte 0xAC, `XOR H` (R201). -/
  | xorH
  /-- Byte 0xAD, `XOR L` (R201). -/
  | xorL
  /-- Byte 0xAE, `XOR (HL)` (R202). -/
  | xorAtHl
  /-- Byte 0xAF, `XOR A` (R201). -/
  | xorA
  /-- Byte 0xB0, `OR B` (R204). -/
  | orB
  /-- Byte 0xB1, `OR C` (R204). -/
  | orC
  /-- Byte 0xB2, `OR D` (R204). -/
  | orD
  /-- Byte 0xB3, `OR E` (R204). -/
  | orE
  /-- Byte 0xB4, `OR H` (R204). -/
  | orH
  /-- Byte 0xB5, `OR L` (R204). -/
  | orL
  /-- Byte 0xB6, `OR (HL)` (R205). -/
  | orAtHl
  /-- Byte 0xB7, `OR A` (R204). -/
  | orA
  /-- Byte 0xB8, `CP B` (R207). -/
  | cpB
  /-- Byte 0xB9, `CP C` (R207). -/
  | cpC
  /-- Byte 0xBA, `CP D` (R207). -/
  | cpD
  /-- Byte 0xBB, `CP E` (R207). -/
  | cpE
  /-- Byte 0xBC, `CP H` (R207). -/
  | cpH
  /-- Byte 0xBD, `CP L` (R207). -/
  | cpL
  /-- Byte 0xBE, `CP (HL)` (R208). -/
  | cpAtHl
  /-- Byte 0xBF, `CP A` (R207). -/
  | cpA
  /-- Byte 0xC0, an unimplemented entry (R144). -/
  | unimplC0
  /-- Byte 0xC1, `POP BC` (R222). -/
  | popBc
  /-- Byte 0xC2, an unimplemented entry (R144). -/
  | unimplC2
  /-- Byte 0xC3, an unimplemented entry (R144). -/
  | unimplC3
  /-- Byte 0xC4, an unimplemented entry (R144). -/
  | unimplC4
  /-- Byte 0xC5, `PUSH BC` (R221). -/
  | pushBc
  /-- Byte 0xC7, an unimplemented entry (R144). -/
  | unimplC7
  /-- Byte 0xC8, an unimplemented entry (R144). -/
  | unimplC8
  /-- Byte 0xC9, `RET` (R224). -/
  | ret
  /-- Byte 0xCA, an unimplemented entry (R144). -/
  | unimplCA
  /-- Byte 0xCB, the byte that selects the extended table (R143). -/
  | prefixByte
  /-- Byte 0xCC, an unimplemented entry (R144). -/
  | unimplCC
  /-- Byte 0xCE, an unimplemented entry (R144). -/
  | unimplCE
  /-- Byte 0xCF, an unimplemented entry (R144). -/
  | unimplCF
  /-- Byte 0xD0, an unimplemented entry (R144). -/
  | unimplD0
  /-- Byte 0xD1, `POP DE` (R222). -/
  | popDe
  /-- Byte 0xD2, an unimplemented entry (R144). -/
  | unimplD2
  /-- Byte 0xD3, an unimplemented entry (R144). -/
  | unimplD3
  /-- Byte 0xD4, an unimplemented entry (R144). -/
  | unimplD4
  /-- Byte 0xD5, `PUSH DE` (R221). -/
  | pushDe
  /-- Byte 0xD7, an unimplemented entry (R144). -/
  | unimplD7
  /-- Byte 0xD8, an unimplemented entry (R144). -/
  | unimplD8
  /-- Byte 0xD9, an unimplemented entry (R144). -/
  | unimplD9
  /-- Byte 0xDA, an unimplemented entry (R144). -/
  | unimplDA
  /-- Byte 0xDB, an unimplemented entry (R144). -/
  | unimplDB
  /-- Byte 0xDC, an unimplemented entry (R144). -/
  | unimplDC
  /-- Byte 0xDD, an unimplemented entry (R144). -/
  | unimplDD
  /-- Byte 0xDE, an unimplemented entry (R144). -/
  | unimplDE
  /-- Byte 0xDF, an unimplemented entry (R144). -/
  | unimplDF
  /-- Byte 0xE0, an unimplemented entry (R144). -/
  | unimplE0
  /-- Byte 0xE1, `POP HL` (R222). -/
  | popHl
  /-- Byte 0xE2, an unimplemented entry (R144). -/
  | unimplE2
  /-- Byte 0xE3, an unimplemented entry (R144). -/
  | unimplE3
  /-- Byte 0xE4, an unimplemented entry (R144). -/
  | unimplE4
  /-- Byte 0xE5, `PUSH HL` (R221). -/
  | pushHl
  /-- Byte 0xE7, an unimplemented entry (R144). -/
  | unimplE7
  /-- Byte 0xE8, an unimplemented entry (R144). -/
  | unimplE8
  /-- Byte 0xE9, an unimplemented entry (R144). -/
  | unimplE9
  /-- Byte 0xEB, an unimplemented entry (R144). -/
  | unimplEB
  /-- Byte 0xEC, an unimplemented entry (R144). -/
  | unimplEC
  /-- Byte 0xED, an unimplemented entry (R144). -/
  | unimplED
  /-- Byte 0xEF, an unimplemented entry (R144). -/
  | unimplEF
  /-- Byte 0xF0, an unimplemented entry (R144). -/
  | unimplF0
  /-- Byte 0xF1, an unimplemented entry (R144). -/
  | unimplF1
  /-- Byte 0xF2, an unimplemented entry (R144). -/
  | unimplF2
  /-- Byte 0xF3, `DI` (R226). -/
  | di
  /-- Byte 0xF4, an unimplemented entry (R144). -/
  | unimplF4
  /-- Byte 0xF5, an unimplemented entry (R144). -/
  | unimplF5
  /-- Byte 0xF7, an unimplemented entry (R144). -/
  | unimplF7
  /-- Byte 0xF9, an unimplemented entry (R144). -/
  | unimplF9
  /-- Byte 0xFA, an unimplemented entry (R144). -/
  | unimplFA
  /-- Byte 0xFB, `EI` (R227). -/
  | ei
  /-- Byte 0xFC, an unimplemented entry (R144). -/
  | unimplFC
  /-- Byte 0xFD, an unimplemented entry (R144). -/
  | unimplFD
  /-- Byte 0xFF, an unimplemented entry (R144). -/
  | unimplFF
  deriving DecidableEq, Repr

end Sys2Proof
end

