-- ==== Sys2Proof/Decode.lean ====
section
/-! DEFINITION. Decoding and encoding (R110 to R122): the two 256-entry tables of R115 and R116, the decoder of a list
of bytes, the encoder, and the reading of a word numbered as the opcode table numbers it. -/

namespace Sys2Proof

/-- The byte `cfg.PREFIX` the opcode table is written with (R119, R122), its default. -/
def prefixCode : Byte := 0xCB

/-- An entry of the primary table by its format (R111): what follows the opcode byte and the instruction it gives. -/
inductive Entry where
  /-- `OP`: nothing follows. -/
  | op (i : Instr)
  /-- `OP_D8` and `OP_R8`: one immediate byte. -/
  | imm8 (make : Byte → Instr)
  /-- `OP_D16`: two immediate bytes. -/
  | imm16 (make : Byte → Byte → Instr)
  /-- The byte that selects the extended table: a second opcode byte. -/
  | extended

/-- Row 0x of the primary table (R115), by the low nibble of the opcode byte. -/
def row0 (lo : Nat) : Entry :=
  match lo with
  | 0x0 => .op .unimpl00
  | 0x1 => .imm16 .ldBcD16
  | 0x2 => .op .unimpl02
  | 0x3 => .op .unimpl03
  | 0x4 => .op .incB
  | 0x5 => .op .decB
  | 0x6 => .imm8 .ldBD8
  | 0x7 => .op .unimpl07
  | 0x8 => .op .unimpl08
  | 0x9 => .op .unimpl09
  | 0xA => .op .unimpl0A
  | 0xB => .op .unimpl0B
  | 0xC => .op .incC
  | 0xD => .op .decC
  | 0xE => .imm8 .ldCD8
  | _ => .op .unimpl0F

/-- Row 1x of the primary table (R115), by the low nibble of the opcode byte. -/
def row1 (lo : Nat) : Entry :=
  match lo with
  | 0x0 => .op .unimpl10
  | 0x1 => .imm16 .ldDeD16
  | 0x2 => .op .unimpl12
  | 0x3 => .op .unimpl13
  | 0x4 => .op .incD
  | 0x5 => .op .decD
  | 0x6 => .imm8 .ldDD8
  | 0x7 => .op .unimpl17
  | 0x8 => .op .unimpl18
  | 0x9 => .op .unimpl19
  | 0xA => .op .unimpl1A
  | 0xB => .op .unimpl1B
  | 0xC => .op .incE
  | 0xD => .op .decE
  | 0xE => .imm8 .ldED8
  | _ => .op .unimpl1F

/-- Row 2x of the primary table (R115), by the low nibble of the opcode byte. -/
def row2 (lo : Nat) : Entry :=
  match lo with
  | 0x0 => .op .unimpl20
  | 0x1 => .imm16 .ldHlD16
  | 0x2 => .op .unimpl22
  | 0x3 => .op .unimpl23
  | 0x4 => .op .incH
  | 0x5 => .op .decH
  | 0x6 => .imm8 .ldHD8
  | 0x7 => .op .unimpl27
  | 0x8 => .op .unimpl28
  | 0x9 => .op .unimpl29
  | 0xA => .op .unimpl2A
  | 0xB => .op .unimpl2B
  | 0xC => .op .incL
  | 0xD => .op .decL
  | 0xE => .imm8 .ldLD8
  | _ => .op .unimpl2F

/-- Row 3x of the primary table (R115), by the low nibble of the opcode byte. -/
def row3 (lo : Nat) : Entry :=
  match lo with
  | 0x0 => .op .unimpl30
  | 0x1 => .imm16 .ldSpD16
  | 0x2 => .op .unimpl32
  | 0x3 => .op .unimpl33
  | 0x4 => .op .incAtHl
  | 0x5 => .op .decAtHl
  | 0x6 => .imm8 .ldAtHlD8
  | 0x7 => .op .unimpl37
  | 0x8 => .op .unimpl38
  | 0x9 => .op .unimpl39
  | 0xA => .op .unimpl3A
  | 0xB => .op .unimpl3B
  | 0xC => .op .incA
  | 0xD => .op .decA
  | 0xE => .imm8 .ldAD8
  | _ => .op .unimpl3F

/-- Row 4x of the primary table (R115), by the low nibble of the opcode byte. -/
def row4 (lo : Nat) : Entry :=
  match lo with
  | 0x0 => .op .ldBB
  | 0x1 => .op .ldBC
  | 0x2 => .op .ldBD
  | 0x3 => .op .ldBE
  | 0x4 => .op .ldBH
  | 0x5 => .op .ldBL
  | 0x6 => .op .ldBAtHl
  | 0x7 => .op .ldBA
  | 0x8 => .op .ldCB
  | 0x9 => .op .ldCC
  | 0xA => .op .ldCD
  | 0xB => .op .ldCE
  | 0xC => .op .ldCH
  | 0xD => .op .ldCL
  | 0xE => .op .ldCAtHl
  | _ => .op .ldCA

/-- Row 5x of the primary table (R115), by the low nibble of the opcode byte. -/
def row5 (lo : Nat) : Entry :=
  match lo with
  | 0x0 => .op .ldDB
  | 0x1 => .op .ldDC
  | 0x2 => .op .ldDD
  | 0x3 => .op .ldDE
  | 0x4 => .op .ldDH
  | 0x5 => .op .ldDL
  | 0x6 => .op .ldDAtHl
  | 0x7 => .op .ldDA
  | 0x8 => .op .ldEB
  | 0x9 => .op .ldEC
  | 0xA => .op .ldED
  | 0xB => .op .ldEE
  | 0xC => .op .ldEH
  | 0xD => .op .ldEL
  | 0xE => .op .ldEAtHl
  | _ => .op .ldEA

/-- Row 6x of the primary table (R115), by the low nibble of the opcode byte. -/
def row6 (lo : Nat) : Entry :=
  match lo with
  | 0x0 => .op .ldHB
  | 0x1 => .op .ldHC
  | 0x2 => .op .ldHD
  | 0x3 => .op .ldHE
  | 0x4 => .op .ldHH
  | 0x5 => .op .ldHL
  | 0x6 => .op .ldHAtHl
  | 0x7 => .op .ldHA
  | 0x8 => .op .ldLB
  | 0x9 => .op .ldLC
  | 0xA => .op .ldLD
  | 0xB => .op .ldLE
  | 0xC => .op .ldLH
  | 0xD => .op .ldLL
  | 0xE => .op .ldLAtHl
  | _ => .op .ldLA

/-- Row 7x of the primary table (R115), by the low nibble of the opcode byte. -/
def row7 (lo : Nat) : Entry :=
  match lo with
  | 0x0 => .op .ldAtHlB
  | 0x1 => .op .ldAtHlC
  | 0x2 => .op .ldAtHlD
  | 0x3 => .op .ldAtHlE
  | 0x4 => .op .ldAtHlH
  | 0x5 => .op .ldAtHlL
  | 0x6 => .op .unimpl76
  | 0x7 => .op .ldAtHlA
  | 0x8 => .op .ldAB
  | 0x9 => .op .ldAC
  | 0xA => .op .ldAD
  | 0xB => .op .ldAE
  | 0xC => .op .ldAH
  | 0xD => .op .ldAL
  | 0xE => .op .ldAAtHl
  | _ => .op .ldAA

/-- Row 8x of the primary table (R115), by the low nibble of the opcode byte. -/
def row8 (lo : Nat) : Entry :=
  match lo with
  | 0x0 => .op .addAB
  | 0x1 => .op .addAC
  | 0x2 => .op .addAD
  | 0x3 => .op .addAE
  | 0x4 => .op .addAH
  | 0x5 => .op .addAL
  | 0x6 => .op .addAAtHl
  | 0x7 => .op .addAA
  | 0x8 => .op .unimpl88
  | 0x9 => .op .unimpl89
  | 0xA => .op .unimpl8A
  | 0xB => .op .unimpl8B
  | 0xC => .op .unimpl8C
  | 0xD => .op .unimpl8D
  | 0xE => .op .unimpl8E
  | _ => .op .unimpl8F

/-- Row 9x of the primary table (R115), by the low nibble of the opcode byte. -/
def row9 (lo : Nat) : Entry :=
  match lo with
  | 0x0 => .op .subB
  | 0x1 => .op .subC
  | 0x2 => .op .subD
  | 0x3 => .op .subE
  | 0x4 => .op .subH
  | 0x5 => .op .subL
  | 0x6 => .op .subAtHl
  | 0x7 => .op .subA
  | 0x8 => .op .unimpl98
  | 0x9 => .op .unimpl99
  | 0xA => .op .unimpl9A
  | 0xB => .op .unimpl9B
  | 0xC => .op .unimpl9C
  | 0xD => .op .unimpl9D
  | 0xE => .op .unimpl9E
  | _ => .op .unimpl9F

/-- Row Ax of the primary table (R115), by the low nibble of the opcode byte. -/
def rowA (lo : Nat) : Entry :=
  match lo with
  | 0x0 => .op .andB
  | 0x1 => .op .andC
  | 0x2 => .op .andD
  | 0x3 => .op .andE
  | 0x4 => .op .andH
  | 0x5 => .op .andL
  | 0x6 => .op .andAtHl
  | 0x7 => .op .andA
  | 0x8 => .op .xorB
  | 0x9 => .op .xorC
  | 0xA => .op .xorD
  | 0xB => .op .xorE
  | 0xC => .op .xorH
  | 0xD => .op .xorL
  | 0xE => .op .xorAtHl
  | _ => .op .xorA

/-- Row Bx of the primary table (R115), by the low nibble of the opcode byte. -/
def rowB (lo : Nat) : Entry :=
  match lo with
  | 0x0 => .op .orB
  | 0x1 => .op .orC
  | 0x2 => .op .orD
  | 0x3 => .op .orE
  | 0x4 => .op .orH
  | 0x5 => .op .orL
  | 0x6 => .op .orAtHl
  | 0x7 => .op .orA
  | 0x8 => .op .cpB
  | 0x9 => .op .cpC
  | 0xA => .op .cpD
  | 0xB => .op .cpE
  | 0xC => .op .cpH
  | 0xD => .op .cpL
  | 0xE => .op .cpAtHl
  | _ => .op .cpA

/-- Row Cx of the primary table (R115), by the low nibble of the opcode byte. -/
def rowC (lo : Nat) : Entry :=
  match lo with
  | 0x0 => .op .unimplC0
  | 0x1 => .op .popBc
  | 0x2 => .op .unimplC2
  | 0x3 => .op .unimplC3
  | 0x4 => .op .unimplC4
  | 0x5 => .op .pushBc
  | 0x6 => .imm8 .addAD8
  | 0x7 => .op .unimplC7
  | 0x8 => .op .unimplC8
  | 0x9 => .op .ret
  | 0xA => .op .unimplCA
  | 0xB => .extended
  | 0xC => .op .unimplCC
  | 0xD => .imm16 .callA16
  | 0xE => .op .unimplCE
  | _ => .op .unimplCF

/-- Row Dx of the primary table (R115), by the low nibble of the opcode byte. -/
def rowD (lo : Nat) : Entry :=
  match lo with
  | 0x0 => .op .unimplD0
  | 0x1 => .op .popDe
  | 0x2 => .op .unimplD2
  | 0x3 => .op .unimplD3
  | 0x4 => .op .unimplD4
  | 0x5 => .op .pushDe
  | 0x6 => .imm8 .subD8
  | 0x7 => .op .unimplD7
  | 0x8 => .op .unimplD8
  | 0x9 => .op .unimplD9
  | 0xA => .op .unimplDA
  | 0xB => .op .unimplDB
  | 0xC => .op .unimplDC
  | 0xD => .op .unimplDD
  | 0xE => .op .unimplDE
  | _ => .op .unimplDF

/-- Row Ex of the primary table (R115), by the low nibble of the opcode byte. -/
def rowE (lo : Nat) : Entry :=
  match lo with
  | 0x0 => .op .unimplE0
  | 0x1 => .op .popHl
  | 0x2 => .op .unimplE2
  | 0x3 => .op .unimplE3
  | 0x4 => .op .unimplE4
  | 0x5 => .op .pushHl
  | 0x6 => .imm8 .andD8
  | 0x7 => .op .unimplE7
  | 0x8 => .op .unimplE8
  | 0x9 => .op .unimplE9
  | 0xA => .imm16 .ldAtA16A
  | 0xB => .op .unimplEB
  | 0xC => .op .unimplEC
  | 0xD => .op .unimplED
  | 0xE => .imm8 .xorD8
  | _ => .op .unimplEF

/-- Row Fx of the primary table (R115), by the low nibble of the opcode byte. -/
def rowF (lo : Nat) : Entry :=
  match lo with
  | 0x0 => .op .unimplF0
  | 0x1 => .op .unimplF1
  | 0x2 => .op .unimplF2
  | 0x3 => .op .di
  | 0x4 => .op .unimplF4
  | 0x5 => .op .unimplF5
  | 0x6 => .imm8 .orD8
  | 0x7 => .op .unimplF7
  | 0x8 => .imm8 .ldHlSpR8
  | 0x9 => .op .unimplF9
  | 0xA => .op .unimplFA
  | 0xB => .op .ei
  | 0xC => .op .unimplFC
  | 0xD => .op .unimplFD
  | 0xE => .imm8 .cpD8
  | _ => .op .unimplFF

/-- The primary table (R115): 256 entries, by the high and the low nibble of the opcode byte. -/
def primaryTable (op : Byte) : Entry :=
  let lo := op.toNat % 16
  match op.toNat / 16 with
  | 0x0 => row0 lo
  | 0x1 => row1 lo
  | 0x2 => row2 lo
  | 0x3 => row3 lo
  | 0x4 => row4 lo
  | 0x5 => row5 lo
  | 0x6 => row6 lo
  | 0x7 => row7 lo
  | 0x8 => row8 lo
  | 0x9 => row9 lo
  | 0xA => rowA lo
  | 0xB => rowB lo
  | 0xC => rowC lo
  | 0xD => rowD lo
  | 0xE => rowE lo
  | _ => rowF lo

/-- The extended table (R116): 256 entries, eight to a row of the opcode table. -/
def extendedTable (op2 : Byte) : Instr :=
  match op2.toNat / 8 with
  | 0 => .unimplCb00To07 op2
  | 1 => .unimplCb08To0F op2
  | 2 => .unimplCb10To17 op2
  | 3 => .unimplCb18To1F op2
  | 4 => .unimplCb20To27 op2
  | 5 => .unimplCb28To2F op2
  | 6 => .unimplCb30To37 op2
  | 7 => .unimplCb38To3F op2
  | 8 => .unimplCb40To47 op2
  | 9 => .unimplCb48To4F op2
  | 10 => .unimplCb50To57 op2
  | 11 => .unimplCb58To5F op2
  | 12 => .unimplCb60To67 op2
  | 13 => .unimplCb68To6F op2
  | 14 => .unimplCb70To77 op2
  | 15 => .unimplCb78To7F op2
  | 16 => .unimplCb80To87 op2
  | 17 => .unimplCb88To8F op2
  | 18 => .unimplCb90To97 op2
  | 19 => .unimplCb98To9F op2
  | 20 => .unimplCbA0ToA7 op2
  | 21 => .unimplCbA8ToAF op2
  | 22 => .unimplCbB0ToB7 op2
  | 23 => .unimplCbB8ToBF op2
  | 24 => .unimplCbC0ToC7 op2
  | 25 => .unimplCbC8ToCF op2
  | 26 => .unimplCbD0ToD7 op2
  | 27 => .unimplCbD8ToDF op2
  | 28 => .unimplCbE0ToE7 op2
  | 29 => .unimplCbE8ToEF op2
  | 30 => .unimplCbF0ToF7 op2
  | _ => .unimplCbF8ToFF op2

/-- Why bytes are no instruction: every opcode byte has its entry, so only bytes can be missing; and the cell of the prefix byte
is an entry only where that byte is `cfg.PREFIX`. -/
inductive DecodeError where
  /-- There is no byte at all. -/
  | noBytes
  /-- The immediate bytes of this opcode byte are missing. -/
  | truncated (op : Byte)
  /-- The table's prefix byte where another byte is `cfg.PREFIX`: an unimplemented entry (R142, R144). -/
  | notThePrefix (op : Byte)
  deriving DecidableEq, Repr

/-- The instruction at the front of a list of bytes, and the bytes after it (R110, R142), where `p` is `cfg.PREFIX`. The byte `p`
with a second byte is an extended entry; alone it is the row of the prefix byte itself (R122). -/
def decodeWith (p : Byte) (bytes : List Byte) : Except DecodeError (Instr × List Byte) :=
  match bytes with
  | [] => .error .noBytes
  | op :: rest =>
    if op = p then
      match rest with
      | [] => .ok (.prefixByte, [])
      | op2 :: rest' => .ok (extendedTable op2, rest')
    else
      match primaryTable op, rest with
      | .op i, _ => .ok (i, rest)
      | .imm8 make, b1 :: rest' => .ok (make b1, rest')
      | .imm16 make, b1 :: b2 :: rest' => .ok (make b1 b2, rest')
      | .extended, _ => .error (.notThePrefix op)
      | _, _ => .error (.truncated op)

/-- Decoding at the default `cfg.PREFIX`. -/
def decode (bytes : List Byte) : Except DecodeError (Instr × List Byte) := decodeWith prefixCode bytes

/-- The bytes of an instruction (R111, R115, R116) at the default `cfg.PREFIX`. -/
def encode : Instr → List Byte
  | .unimpl00 => [0x00]
  | .ldBcD16 b1 b2 => [0x01, b1, b2]
  | .unimpl02 => [0x02]
  | .unimpl03 => [0x03]
  | .incB => [0x04]
  | .decB => [0x05]
  | .ldBD8 d8 => [0x06, d8]
  | .unimpl07 => [0x07]
  | .unimpl08 => [0x08]
  | .unimpl09 => [0x09]
  | .unimpl0A => [0x0A]
  | .unimpl0B => [0x0B]
  | .incC => [0x0C]
  | .decC => [0x0D]
  | .ldCD8 d8 => [0x0E, d8]
  | .unimpl0F => [0x0F]
  | .unimpl10 => [0x10]
  | .ldDeD16 b1 b2 => [0x11, b1, b2]
  | .unimpl12 => [0x12]
  | .unimpl13 => [0x13]
  | .incD => [0x14]
  | .decD => [0x15]
  | .ldDD8 d8 => [0x16, d8]
  | .unimpl17 => [0x17]
  | .unimpl18 => [0x18]
  | .unimpl19 => [0x19]
  | .unimpl1A => [0x1A]
  | .unimpl1B => [0x1B]
  | .incE => [0x1C]
  | .decE => [0x1D]
  | .ldED8 d8 => [0x1E, d8]
  | .unimpl1F => [0x1F]
  | .unimpl20 => [0x20]
  | .ldHlD16 b1 b2 => [0x21, b1, b2]
  | .unimpl22 => [0x22]
  | .unimpl23 => [0x23]
  | .incH => [0x24]
  | .decH => [0x25]
  | .ldHD8 d8 => [0x26, d8]
  | .unimpl27 => [0x27]
  | .unimpl28 => [0x28]
  | .unimpl29 => [0x29]
  | .unimpl2A => [0x2A]
  | .unimpl2B => [0x2B]
  | .incL => [0x2C]
  | .decL => [0x2D]
  | .ldLD8 d8 => [0x2E, d8]
  | .unimpl2F => [0x2F]
  | .unimpl30 => [0x30]
  | .ldSpD16 b1 b2 => [0x31, b1, b2]
  | .unimpl32 => [0x32]
  | .unimpl33 => [0x33]
  | .incAtHl => [0x34]
  | .decAtHl => [0x35]
  | .ldAtHlD8 d8 => [0x36, d8]
  | .unimpl37 => [0x37]
  | .unimpl38 => [0x38]
  | .unimpl39 => [0x39]
  | .unimpl3A => [0x3A]
  | .unimpl3B => [0x3B]
  | .incA => [0x3C]
  | .decA => [0x3D]
  | .ldAD8 d8 => [0x3E, d8]
  | .unimpl3F => [0x3F]
  | .ldBB => [0x40]
  | .ldBC => [0x41]
  | .ldBD => [0x42]
  | .ldBE => [0x43]
  | .ldBH => [0x44]
  | .ldBL => [0x45]
  | .ldBAtHl => [0x46]
  | .ldBA => [0x47]
  | .ldCB => [0x48]
  | .ldCC => [0x49]
  | .ldCD => [0x4A]
  | .ldCE => [0x4B]
  | .ldCH => [0x4C]
  | .ldCL => [0x4D]
  | .ldCAtHl => [0x4E]
  | .ldCA => [0x4F]
  | .ldDB => [0x50]
  | .ldDC => [0x51]
  | .ldDD => [0x52]
  | .ldDE => [0x53]
  | .ldDH => [0x54]
  | .ldDL => [0x55]
  | .ldDAtHl => [0x56]
  | .ldDA => [0x57]
  | .ldEB => [0x58]
  | .ldEC => [0x59]
  | .ldED => [0x5A]
  | .ldEE => [0x5B]
  | .ldEH => [0x5C]
  | .ldEL => [0x5D]
  | .ldEAtHl => [0x5E]
  | .ldEA => [0x5F]
  | .ldHB => [0x60]
  | .ldHC => [0x61]
  | .ldHD => [0x62]
  | .ldHE => [0x63]
  | .ldHH => [0x64]
  | .ldHL => [0x65]
  | .ldHAtHl => [0x66]
  | .ldHA => [0x67]
  | .ldLB => [0x68]
  | .ldLC => [0x69]
  | .ldLD => [0x6A]
  | .ldLE => [0x6B]
  | .ldLH => [0x6C]
  | .ldLL => [0x6D]
  | .ldLAtHl => [0x6E]
  | .ldLA => [0x6F]
  | .ldAtHlB => [0x70]
  | .ldAtHlC => [0x71]
  | .ldAtHlD => [0x72]
  | .ldAtHlE => [0x73]
  | .ldAtHlH => [0x74]
  | .ldAtHlL => [0x75]
  | .unimpl76 => [0x76]
  | .ldAtHlA => [0x77]
  | .ldAB => [0x78]
  | .ldAC => [0x79]
  | .ldAD => [0x7A]
  | .ldAE => [0x7B]
  | .ldAH => [0x7C]
  | .ldAL => [0x7D]
  | .ldAAtHl => [0x7E]
  | .ldAA => [0x7F]
  | .addAB => [0x80]
  | .addAC => [0x81]
  | .addAD => [0x82]
  | .addAE => [0x83]
  | .addAH => [0x84]
  | .addAL => [0x85]
  | .addAAtHl => [0x86]
  | .addAA => [0x87]
  | .unimpl88 => [0x88]
  | .unimpl89 => [0x89]
  | .unimpl8A => [0x8A]
  | .unimpl8B => [0x8B]
  | .unimpl8C => [0x8C]
  | .unimpl8D => [0x8D]
  | .unimpl8E => [0x8E]
  | .unimpl8F => [0x8F]
  | .subB => [0x90]
  | .subC => [0x91]
  | .subD => [0x92]
  | .subE => [0x93]
  | .subH => [0x94]
  | .subL => [0x95]
  | .subAtHl => [0x96]
  | .subA => [0x97]
  | .unimpl98 => [0x98]
  | .unimpl99 => [0x99]
  | .unimpl9A => [0x9A]
  | .unimpl9B => [0x9B]
  | .unimpl9C => [0x9C]
  | .unimpl9D => [0x9D]
  | .unimpl9E => [0x9E]
  | .unimpl9F => [0x9F]
  | .andB => [0xA0]
  | .andC => [0xA1]
  | .andD => [0xA2]
  | .andE => [0xA3]
  | .andH => [0xA4]
  | .andL => [0xA5]
  | .andAtHl => [0xA6]
  | .andA => [0xA7]
  | .xorB => [0xA8]
  | .xorC => [0xA9]
  | .xorD => [0xAA]
  | .xorE => [0xAB]
  | .xorH => [0xAC]
  | .xorL => [0xAD]
  | .xorAtHl => [0xAE]
  | .xorA => [0xAF]
  | .orB => [0xB0]
  | .orC => [0xB1]
  | .orD => [0xB2]
  | .orE => [0xB3]
  | .orH => [0xB4]
  | .orL => [0xB5]
  | .orAtHl => [0xB6]
  | .orA => [0xB7]
  | .cpB => [0xB8]
  | .cpC => [0xB9]
  | .cpD => [0xBA]
  | .cpE => [0xBB]
  | .cpH => [0xBC]
  | .cpL => [0xBD]
  | .cpAtHl => [0xBE]
  | .cpA => [0xBF]
  | .unimplC0 => [0xC0]
  | .popBc => [0xC1]
  | .unimplC2 => [0xC2]
  | .unimplC3 => [0xC3]
  | .unimplC4 => [0xC4]
  | .pushBc => [0xC5]
  | .addAD8 d8 => [0xC6, d8]
  | .unimplC7 => [0xC7]
  | .unimplC8 => [0xC8]
  | .ret => [0xC9]
  | .unimplCA => [0xCA]
  | .prefixByte => [prefixCode]
  | .unimplCC => [0xCC]
  | .callA16 b1 b2 => [0xCD, b1, b2]
  | .unimplCE => [0xCE]
  | .unimplCF => [0xCF]
  | .unimplD0 => [0xD0]
  | .popDe => [0xD1]
  | .unimplD2 => [0xD2]
  | .unimplD3 => [0xD3]
  | .unimplD4 => [0xD4]
  | .pushDe => [0xD5]
  | .subD8 d8 => [0xD6, d8]
  | .unimplD7 => [0xD7]
  | .unimplD8 => [0xD8]
  | .unimplD9 => [0xD9]
  | .unimplDA => [0xDA]
  | .unimplDB => [0xDB]
  | .unimplDC => [0xDC]
  | .unimplDD => [0xDD]
  | .unimplDE => [0xDE]
  | .unimplDF => [0xDF]
  | .unimplE0 => [0xE0]
  | .popHl => [0xE1]
  | .unimplE2 => [0xE2]
  | .unimplE3 => [0xE3]
  | .unimplE4 => [0xE4]
  | .pushHl => [0xE5]
  | .andD8 d8 => [0xE6, d8]
  | .unimplE7 => [0xE7]
  | .unimplE8 => [0xE8]
  | .unimplE9 => [0xE9]
  | .ldAtA16A b1 b2 => [0xEA, b1, b2]
  | .unimplEB => [0xEB]
  | .unimplEC => [0xEC]
  | .unimplED => [0xED]
  | .xorD8 d8 => [0xEE, d8]
  | .unimplEF => [0xEF]
  | .unimplF0 => [0xF0]
  | .unimplF1 => [0xF1]
  | .unimplF2 => [0xF2]
  | .di => [0xF3]
  | .unimplF4 => [0xF4]
  | .unimplF5 => [0xF5]
  | .orD8 d8 => [0xF6, d8]
  | .unimplF7 => [0xF7]
  | .ldHlSpR8 r8 => [0xF8, r8]
  | .unimplF9 => [0xF9]
  | .unimplFA => [0xFA]
  | .ei => [0xFB]
  | .unimplFC => [0xFC]
  | .unimplFD => [0xFD]
  | .cpD8 d8 => [0xFE, d8]
  | .unimplFF => [0xFF]
  | .unimplCb00To07 op2 => [prefixCode, op2]
  | .unimplCb08To0F op2 => [prefixCode, op2]
  | .unimplCb10To17 op2 => [prefixCode, op2]
  | .unimplCb18To1F op2 => [prefixCode, op2]
  | .unimplCb20To27 op2 => [prefixCode, op2]
  | .unimplCb28To2F op2 => [prefixCode, op2]
  | .unimplCb30To37 op2 => [prefixCode, op2]
  | .unimplCb38To3F op2 => [prefixCode, op2]
  | .unimplCb40To47 op2 => [prefixCode, op2]
  | .unimplCb48To4F op2 => [prefixCode, op2]
  | .unimplCb50To57 op2 => [prefixCode, op2]
  | .unimplCb58To5F op2 => [prefixCode, op2]
  | .unimplCb60To67 op2 => [prefixCode, op2]
  | .unimplCb68To6F op2 => [prefixCode, op2]
  | .unimplCb70To77 op2 => [prefixCode, op2]
  | .unimplCb78To7F op2 => [prefixCode, op2]
  | .unimplCb80To87 op2 => [prefixCode, op2]
  | .unimplCb88To8F op2 => [prefixCode, op2]
  | .unimplCb90To97 op2 => [prefixCode, op2]
  | .unimplCb98To9F op2 => [prefixCode, op2]
  | .unimplCbA0ToA7 op2 => [prefixCode, op2]
  | .unimplCbA8ToAF op2 => [prefixCode, op2]
  | .unimplCbB0ToB7 op2 => [prefixCode, op2]
  | .unimplCbB8ToBF op2 => [prefixCode, op2]
  | .unimplCbC0ToC7 op2 => [prefixCode, op2]
  | .unimplCbC8ToCF op2 => [prefixCode, op2]
  | .unimplCbD0ToD7 op2 => [prefixCode, op2]
  | .unimplCbD8ToDF op2 => [prefixCode, op2]
  | .unimplCbE0ToE7 op2 => [prefixCode, op2]
  | .unimplCbE8ToEF op2 => [prefixCode, op2]
  | .unimplCbF0ToF7 op2 => [prefixCode, op2]
  | .unimplCbF8ToFF op2 => [prefixCode, op2]

/-- The first byte of an encoding, or 0 where there is none. -/
def firstByte (bytes : List Byte) : Byte :=
  match bytes with
  | [] => 0x00
  | op :: _ => op

/-- The opcode byte of an instruction in the opcode table. -/
def Instr.opcode (i : Instr) : Byte := firstByte (encode i)

/-- The bytes of an instruction where `p` is `cfg.PREFIX`: "a model with another `cfg.PREFIX` replaces the high byte" (R122). -/
def encodeWith (p : Byte) (i : Instr) : List Byte :=
  if i.opcode = prefixCode then p :: (encode i).tail else encode i

/-- Whether the bytes of an instruction select it where `p` is `cfg.PREFIX`: the entry of the byte `p` itself is not reached
(R142). At the default every instruction is selected. -/
def Instr.selectedBy (i : Instr) (p : Byte) : Bool := i.opcode == prefixCode || i.opcode != p

/-- The bytes of a word of `n` bytes as the opcode table numbers it (R122): `byte0 * 256 + byte1`, the first byte the most
significant. -/
def tableBytes (n w : Nat) : List Byte :=
  match n with
  | 0 => []
  | n' + 1 => BitVec.ofNat 8 (w / 256 ^ n') :: tableBytes n' w

/-- The first of two results that is an instruction. -/
def firstDecoded (r : Except DecodeError (Instr × List Byte)) (other : Option Instr) : Option Instr :=
  match r with
  | .ok (i, _) => some i
  | .error _ => other

/-- The instruction whose first `nbits` bits are the table word `w` and whose operand bytes after them, if it has any, are
zero (DEDUCED, safe: log entry 8). -/
def decodeTableWord (nbits w : Nat) : Option Instr :=
  let bytes := tableBytes (nbits / 8) w
  firstDecoded (decode bytes)
    (firstDecoded (decode (bytes ++ [0x00])) (firstDecoded (decode (bytes ++ [0x00, 0x00])) none))

end Sys2Proof
end

