-- ==== Sys2Proof/Machine/Unimplemented.lean ====
section
/-! DEFINITION. The unimplemented entries of both tables (R144, R145) and the byte that selects the extended table
(R143): the entry "must fail loudly", so each raises its condition. -/

namespace Sys2Proof.Machine

/-- An unimplemented primary entry (R144): nothing more is fetched, and the condition carries the opcode byte. -/
def raiseUnimplemented (op : Byte) (s : State) : Host.Outcome State Fault Refusal :=
  .next (takeCondition (.unimplementedOpcode op) s)

/-- An unimplemented extended entry (R145): the condition carries `cfg.PREFIX` and the second opcode
byte. -/
def raiseUnimplementedExtended (op2 : Byte) (s : State) : Host.Outcome State Fault Refusal :=
  .next (takeCondition (.unimplementedExtendedOpcode s.cfg.prefixByte op2) s)

/-- Byte 0x00 (R144). -/
def execUnimpl00 (s : State) : Host.Outcome State Fault Refusal :=
  raiseUnimplemented 0x00 s

/-- Byte 0x02 (R144). -/
def execUnimpl02 (s : State) : Host.Outcome State Fault Refusal :=
  raiseUnimplemented 0x02 s

/-- Byte 0x03 (R144). -/
def execUnimpl03 (s : State) : Host.Outcome State Fault Refusal :=
  raiseUnimplemented 0x03 s

/-- Byte 0x07 (R144). -/
def execUnimpl07 (s : State) : Host.Outcome State Fault Refusal :=
  raiseUnimplemented 0x07 s

/-- Byte 0x08 (R144). -/
def execUnimpl08 (s : State) : Host.Outcome State Fault Refusal :=
  raiseUnimplemented 0x08 s

/-- Byte 0x09 (R144). -/
def execUnimpl09 (s : State) : Host.Outcome State Fault Refusal :=
  raiseUnimplemented 0x09 s

/-- Byte 0x0A (R144). -/
def execUnimpl0A (s : State) : Host.Outcome State Fault Refusal :=
  raiseUnimplemented 0x0A s

/-- Byte 0x0B (R144). -/
def execUnimpl0B (s : State) : Host.Outcome State Fault Refusal :=
  raiseUnimplemented 0x0B s

/-- Byte 0x0F (R144). -/
def execUnimpl0F (s : State) : Host.Outcome State Fault Refusal :=
  raiseUnimplemented 0x0F s

/-- Byte 0x10 (R144). -/
def execUnimpl10 (s : State) : Host.Outcome State Fault Refusal :=
  raiseUnimplemented 0x10 s

/-- Byte 0x12 (R144). -/
def execUnimpl12 (s : State) : Host.Outcome State Fault Refusal :=
  raiseUnimplemented 0x12 s

/-- Byte 0x13 (R144). -/
def execUnimpl13 (s : State) : Host.Outcome State Fault Refusal :=
  raiseUnimplemented 0x13 s

/-- Byte 0x17 (R144). -/
def execUnimpl17 (s : State) : Host.Outcome State Fault Refusal :=
  raiseUnimplemented 0x17 s

/-- Byte 0x18 (R144). -/
def execUnimpl18 (s : State) : Host.Outcome State Fault Refusal :=
  raiseUnimplemented 0x18 s

/-- Byte 0x19 (R144). -/
def execUnimpl19 (s : State) : Host.Outcome State Fault Refusal :=
  raiseUnimplemented 0x19 s

/-- Byte 0x1A (R144). -/
def execUnimpl1A (s : State) : Host.Outcome State Fault Refusal :=
  raiseUnimplemented 0x1A s

/-- Byte 0x1B (R144). -/
def execUnimpl1B (s : State) : Host.Outcome State Fault Refusal :=
  raiseUnimplemented 0x1B s

/-- Byte 0x1F (R144). -/
def execUnimpl1F (s : State) : Host.Outcome State Fault Refusal :=
  raiseUnimplemented 0x1F s

/-- Byte 0x20 (R144). -/
def execUnimpl20 (s : State) : Host.Outcome State Fault Refusal :=
  raiseUnimplemented 0x20 s

/-- Byte 0x22 (R144). -/
def execUnimpl22 (s : State) : Host.Outcome State Fault Refusal :=
  raiseUnimplemented 0x22 s

/-- Byte 0x23 (R144). -/
def execUnimpl23 (s : State) : Host.Outcome State Fault Refusal :=
  raiseUnimplemented 0x23 s

/-- Byte 0x27 (R144). -/
def execUnimpl27 (s : State) : Host.Outcome State Fault Refusal :=
  raiseUnimplemented 0x27 s

/-- Byte 0x28 (R144). -/
def execUnimpl28 (s : State) : Host.Outcome State Fault Refusal :=
  raiseUnimplemented 0x28 s

/-- Byte 0x29 (R144). -/
def execUnimpl29 (s : State) : Host.Outcome State Fault Refusal :=
  raiseUnimplemented 0x29 s

/-- Byte 0x2A (R144). -/
def execUnimpl2A (s : State) : Host.Outcome State Fault Refusal :=
  raiseUnimplemented 0x2A s

/-- Byte 0x2B (R144). -/
def execUnimpl2B (s : State) : Host.Outcome State Fault Refusal :=
  raiseUnimplemented 0x2B s

/-- Byte 0x2F (R144). -/
def execUnimpl2F (s : State) : Host.Outcome State Fault Refusal :=
  raiseUnimplemented 0x2F s

/-- Byte 0x30 (R144). -/
def execUnimpl30 (s : State) : Host.Outcome State Fault Refusal :=
  raiseUnimplemented 0x30 s

/-- Byte 0x32 (R144). -/
def execUnimpl32 (s : State) : Host.Outcome State Fault Refusal :=
  raiseUnimplemented 0x32 s

/-- Byte 0x33 (R144). -/
def execUnimpl33 (s : State) : Host.Outcome State Fault Refusal :=
  raiseUnimplemented 0x33 s

/-- Byte 0x37 (R144). -/
def execUnimpl37 (s : State) : Host.Outcome State Fault Refusal :=
  raiseUnimplemented 0x37 s

/-- Byte 0x38 (R144). -/
def execUnimpl38 (s : State) : Host.Outcome State Fault Refusal :=
  raiseUnimplemented 0x38 s

/-- Byte 0x39 (R144). -/
def execUnimpl39 (s : State) : Host.Outcome State Fault Refusal :=
  raiseUnimplemented 0x39 s

/-- Byte 0x3A (R144). -/
def execUnimpl3A (s : State) : Host.Outcome State Fault Refusal :=
  raiseUnimplemented 0x3A s

/-- Byte 0x3B (R144). -/
def execUnimpl3B (s : State) : Host.Outcome State Fault Refusal :=
  raiseUnimplemented 0x3B s

/-- Byte 0x3F (R144). -/
def execUnimpl3F (s : State) : Host.Outcome State Fault Refusal :=
  raiseUnimplemented 0x3F s

/-- Byte 0x76 (R144). -/
def execUnimpl76 (s : State) : Host.Outcome State Fault Refusal :=
  raiseUnimplemented 0x76 s

/-- Byte 0x88 (R144). -/
def execUnimpl88 (s : State) : Host.Outcome State Fault Refusal :=
  raiseUnimplemented 0x88 s

/-- Byte 0x89 (R144). -/
def execUnimpl89 (s : State) : Host.Outcome State Fault Refusal :=
  raiseUnimplemented 0x89 s

/-- Byte 0x8A (R144). -/
def execUnimpl8A (s : State) : Host.Outcome State Fault Refusal :=
  raiseUnimplemented 0x8A s

/-- Byte 0x8B (R144). -/
def execUnimpl8B (s : State) : Host.Outcome State Fault Refusal :=
  raiseUnimplemented 0x8B s

/-- Byte 0x8C (R144). -/
def execUnimpl8C (s : State) : Host.Outcome State Fault Refusal :=
  raiseUnimplemented 0x8C s

/-- Byte 0x8D (R144). -/
def execUnimpl8D (s : State) : Host.Outcome State Fault Refusal :=
  raiseUnimplemented 0x8D s

/-- Byte 0x8E (R144). -/
def execUnimpl8E (s : State) : Host.Outcome State Fault Refusal :=
  raiseUnimplemented 0x8E s

/-- Byte 0x8F (R144). -/
def execUnimpl8F (s : State) : Host.Outcome State Fault Refusal :=
  raiseUnimplemented 0x8F s

/-- Byte 0x98 (R144). -/
def execUnimpl98 (s : State) : Host.Outcome State Fault Refusal :=
  raiseUnimplemented 0x98 s

/-- Byte 0x99 (R144). -/
def execUnimpl99 (s : State) : Host.Outcome State Fault Refusal :=
  raiseUnimplemented 0x99 s

/-- Byte 0x9A (R144). -/
def execUnimpl9A (s : State) : Host.Outcome State Fault Refusal :=
  raiseUnimplemented 0x9A s

/-- Byte 0x9B (R144). -/
def execUnimpl9B (s : State) : Host.Outcome State Fault Refusal :=
  raiseUnimplemented 0x9B s

/-- Byte 0x9C (R144). -/
def execUnimpl9C (s : State) : Host.Outcome State Fault Refusal :=
  raiseUnimplemented 0x9C s

/-- Byte 0x9D (R144). -/
def execUnimpl9D (s : State) : Host.Outcome State Fault Refusal :=
  raiseUnimplemented 0x9D s

/-- Byte 0x9E (R144). -/
def execUnimpl9E (s : State) : Host.Outcome State Fault Refusal :=
  raiseUnimplemented 0x9E s

/-- Byte 0x9F (R144). -/
def execUnimpl9F (s : State) : Host.Outcome State Fault Refusal :=
  raiseUnimplemented 0x9F s

/-- Byte 0xC0 (R144). -/
def execUnimplC0 (s : State) : Host.Outcome State Fault Refusal :=
  raiseUnimplemented 0xC0 s

/-- Byte 0xC2 (R144). -/
def execUnimplC2 (s : State) : Host.Outcome State Fault Refusal :=
  raiseUnimplemented 0xC2 s

/-- Byte 0xC3 (R144). -/
def execUnimplC3 (s : State) : Host.Outcome State Fault Refusal :=
  raiseUnimplemented 0xC3 s

/-- Byte 0xC4 (R144). -/
def execUnimplC4 (s : State) : Host.Outcome State Fault Refusal :=
  raiseUnimplemented 0xC4 s

/-- Byte 0xC7 (R144). -/
def execUnimplC7 (s : State) : Host.Outcome State Fault Refusal :=
  raiseUnimplemented 0xC7 s

/-- Byte 0xC8 (R144). -/
def execUnimplC8 (s : State) : Host.Outcome State Fault Refusal :=
  raiseUnimplemented 0xC8 s

/-- Byte 0xCA (R144). -/
def execUnimplCA (s : State) : Host.Outcome State Fault Refusal :=
  raiseUnimplemented 0xCA s

/-- Byte 0xCC (R144). -/
def execUnimplCC (s : State) : Host.Outcome State Fault Refusal :=
  raiseUnimplemented 0xCC s

/-- Byte 0xCE (R144). -/
def execUnimplCE (s : State) : Host.Outcome State Fault Refusal :=
  raiseUnimplemented 0xCE s

/-- Byte 0xCF (R144). -/
def execUnimplCF (s : State) : Host.Outcome State Fault Refusal :=
  raiseUnimplemented 0xCF s

/-- Byte 0xD0 (R144). -/
def execUnimplD0 (s : State) : Host.Outcome State Fault Refusal :=
  raiseUnimplemented 0xD0 s

/-- Byte 0xD2 (R144). -/
def execUnimplD2 (s : State) : Host.Outcome State Fault Refusal :=
  raiseUnimplemented 0xD2 s

/-- Byte 0xD3 (R144). -/
def execUnimplD3 (s : State) : Host.Outcome State Fault Refusal :=
  raiseUnimplemented 0xD3 s

/-- Byte 0xD4 (R144). -/
def execUnimplD4 (s : State) : Host.Outcome State Fault Refusal :=
  raiseUnimplemented 0xD4 s

/-- Byte 0xD7 (R144). -/
def execUnimplD7 (s : State) : Host.Outcome State Fault Refusal :=
  raiseUnimplemented 0xD7 s

/-- Byte 0xD8 (R144). -/
def execUnimplD8 (s : State) : Host.Outcome State Fault Refusal :=
  raiseUnimplemented 0xD8 s

/-- Byte 0xD9 (R144). -/
def execUnimplD9 (s : State) : Host.Outcome State Fault Refusal :=
  raiseUnimplemented 0xD9 s

/-- Byte 0xDA (R144). -/
def execUnimplDA (s : State) : Host.Outcome State Fault Refusal :=
  raiseUnimplemented 0xDA s

/-- Byte 0xDB (R144). -/
def execUnimplDB (s : State) : Host.Outcome State Fault Refusal :=
  raiseUnimplemented 0xDB s

/-- Byte 0xDC (R144). -/
def execUnimplDC (s : State) : Host.Outcome State Fault Refusal :=
  raiseUnimplemented 0xDC s

/-- Byte 0xDD (R144). -/
def execUnimplDD (s : State) : Host.Outcome State Fault Refusal :=
  raiseUnimplemented 0xDD s

/-- Byte 0xDE (R144). -/
def execUnimplDE (s : State) : Host.Outcome State Fault Refusal :=
  raiseUnimplemented 0xDE s

/-- Byte 0xDF (R144). -/
def execUnimplDF (s : State) : Host.Outcome State Fault Refusal :=
  raiseUnimplemented 0xDF s

/-- Byte 0xE0 (R144). -/
def execUnimplE0 (s : State) : Host.Outcome State Fault Refusal :=
  raiseUnimplemented 0xE0 s

/-- Byte 0xE2 (R144). -/
def execUnimplE2 (s : State) : Host.Outcome State Fault Refusal :=
  raiseUnimplemented 0xE2 s

/-- Byte 0xE3 (R144). -/
def execUnimplE3 (s : State) : Host.Outcome State Fault Refusal :=
  raiseUnimplemented 0xE3 s

/-- Byte 0xE4 (R144). -/
def execUnimplE4 (s : State) : Host.Outcome State Fault Refusal :=
  raiseUnimplemented 0xE4 s

/-- Byte 0xE7 (R144). -/
def execUnimplE7 (s : State) : Host.Outcome State Fault Refusal :=
  raiseUnimplemented 0xE7 s

/-- Byte 0xE8 (R144). -/
def execUnimplE8 (s : State) : Host.Outcome State Fault Refusal :=
  raiseUnimplemented 0xE8 s

/-- Byte 0xE9 (R144). -/
def execUnimplE9 (s : State) : Host.Outcome State Fault Refusal :=
  raiseUnimplemented 0xE9 s

/-- Byte 0xEB (R144). -/
def execUnimplEB (s : State) : Host.Outcome State Fault Refusal :=
  raiseUnimplemented 0xEB s

/-- Byte 0xEC (R144). -/
def execUnimplEC (s : State) : Host.Outcome State Fault Refusal :=
  raiseUnimplemented 0xEC s

/-- Byte 0xED (R144). -/
def execUnimplED (s : State) : Host.Outcome State Fault Refusal :=
  raiseUnimplemented 0xED s

/-- Byte 0xEF (R144). -/
def execUnimplEF (s : State) : Host.Outcome State Fault Refusal :=
  raiseUnimplemented 0xEF s

/-- Byte 0xF0 (R144). -/
def execUnimplF0 (s : State) : Host.Outcome State Fault Refusal :=
  raiseUnimplemented 0xF0 s

/-- Byte 0xF1 (R144). -/
def execUnimplF1 (s : State) : Host.Outcome State Fault Refusal :=
  raiseUnimplemented 0xF1 s

/-- Byte 0xF2 (R144). -/
def execUnimplF2 (s : State) : Host.Outcome State Fault Refusal :=
  raiseUnimplemented 0xF2 s

/-- Byte 0xF4 (R144). -/
def execUnimplF4 (s : State) : Host.Outcome State Fault Refusal :=
  raiseUnimplemented 0xF4 s

/-- Byte 0xF5 (R144). -/
def execUnimplF5 (s : State) : Host.Outcome State Fault Refusal :=
  raiseUnimplemented 0xF5 s

/-- Byte 0xF7 (R144). -/
def execUnimplF7 (s : State) : Host.Outcome State Fault Refusal :=
  raiseUnimplemented 0xF7 s

/-- Byte 0xF9 (R144). -/
def execUnimplF9 (s : State) : Host.Outcome State Fault Refusal :=
  raiseUnimplemented 0xF9 s

/-- Byte 0xFA (R144). -/
def execUnimplFA (s : State) : Host.Outcome State Fault Refusal :=
  raiseUnimplemented 0xFA s

/-- Byte 0xFC (R144). -/
def execUnimplFC (s : State) : Host.Outcome State Fault Refusal :=
  raiseUnimplemented 0xFC s

/-- Byte 0xFD (R144). -/
def execUnimplFD (s : State) : Host.Outcome State Fault Refusal :=
  raiseUnimplemented 0xFD s

/-- Byte 0xFF (R144). -/
def execUnimplFF (s : State) : Host.Outcome State Fault Refusal :=
  raiseUnimplemented 0xFF s

/-- Extended entries 0x00..0x07 (R145). -/
def execUnimplCb00To07 (op2 : Byte) (s : State) : Host.Outcome State Fault Refusal :=
  raiseUnimplementedExtended op2 s

/-- Extended entries 0x08..0x0F (R145). -/
def execUnimplCb08To0F (op2 : Byte) (s : State) : Host.Outcome State Fault Refusal :=
  raiseUnimplementedExtended op2 s

/-- Extended entries 0x10..0x17 (R145). -/
def execUnimplCb10To17 (op2 : Byte) (s : State) : Host.Outcome State Fault Refusal :=
  raiseUnimplementedExtended op2 s

/-- Extended entries 0x18..0x1F (R145). -/
def execUnimplCb18To1F (op2 : Byte) (s : State) : Host.Outcome State Fault Refusal :=
  raiseUnimplementedExtended op2 s

/-- Extended entries 0x20..0x27 (R145). -/
def execUnimplCb20To27 (op2 : Byte) (s : State) : Host.Outcome State Fault Refusal :=
  raiseUnimplementedExtended op2 s

/-- Extended entries 0x28..0x2F (R145). -/
def execUnimplCb28To2F (op2 : Byte) (s : State) : Host.Outcome State Fault Refusal :=
  raiseUnimplementedExtended op2 s

/-- Extended entries 0x30..0x37 (R145). -/
def execUnimplCb30To37 (op2 : Byte) (s : State) : Host.Outcome State Fault Refusal :=
  raiseUnimplementedExtended op2 s

/-- Extended entries 0x38..0x3F (R145). -/
def execUnimplCb38To3F (op2 : Byte) (s : State) : Host.Outcome State Fault Refusal :=
  raiseUnimplementedExtended op2 s

/-- Extended entries 0x40..0x47 (R145). -/
def execUnimplCb40To47 (op2 : Byte) (s : State) : Host.Outcome State Fault Refusal :=
  raiseUnimplementedExtended op2 s

/-- Extended entries 0x48..0x4F (R145). -/
def execUnimplCb48To4F (op2 : Byte) (s : State) : Host.Outcome State Fault Refusal :=
  raiseUnimplementedExtended op2 s

/-- Extended entries 0x50..0x57 (R145). -/
def execUnimplCb50To57 (op2 : Byte) (s : State) : Host.Outcome State Fault Refusal :=
  raiseUnimplementedExtended op2 s

/-- Extended entries 0x58..0x5F (R145). -/
def execUnimplCb58To5F (op2 : Byte) (s : State) : Host.Outcome State Fault Refusal :=
  raiseUnimplementedExtended op2 s

/-- Extended entries 0x60..0x67 (R145). -/
def execUnimplCb60To67 (op2 : Byte) (s : State) : Host.Outcome State Fault Refusal :=
  raiseUnimplementedExtended op2 s

/-- Extended entries 0x68..0x6F (R145). -/
def execUnimplCb68To6F (op2 : Byte) (s : State) : Host.Outcome State Fault Refusal :=
  raiseUnimplementedExtended op2 s

/-- Extended entries 0x70..0x77 (R145). -/
def execUnimplCb70To77 (op2 : Byte) (s : State) : Host.Outcome State Fault Refusal :=
  raiseUnimplementedExtended op2 s

/-- Extended entries 0x78..0x7F (R145). -/
def execUnimplCb78To7F (op2 : Byte) (s : State) : Host.Outcome State Fault Refusal :=
  raiseUnimplementedExtended op2 s

/-- Extended entries 0x80..0x87 (R145). -/
def execUnimplCb80To87 (op2 : Byte) (s : State) : Host.Outcome State Fault Refusal :=
  raiseUnimplementedExtended op2 s

/-- Extended entries 0x88..0x8F (R145). -/
def execUnimplCb88To8F (op2 : Byte) (s : State) : Host.Outcome State Fault Refusal :=
  raiseUnimplementedExtended op2 s

/-- Extended entries 0x90..0x97 (R145). -/
def execUnimplCb90To97 (op2 : Byte) (s : State) : Host.Outcome State Fault Refusal :=
  raiseUnimplementedExtended op2 s

/-- Extended entries 0x98..0x9F (R145). -/
def execUnimplCb98To9F (op2 : Byte) (s : State) : Host.Outcome State Fault Refusal :=
  raiseUnimplementedExtended op2 s

/-- Extended entries 0xA0..0xA7 (R145). -/
def execUnimplCbA0ToA7 (op2 : Byte) (s : State) : Host.Outcome State Fault Refusal :=
  raiseUnimplementedExtended op2 s

/-- Extended entries 0xA8..0xAF (R145). -/
def execUnimplCbA8ToAF (op2 : Byte) (s : State) : Host.Outcome State Fault Refusal :=
  raiseUnimplementedExtended op2 s

/-- Extended entries 0xB0..0xB7 (R145). -/
def execUnimplCbB0ToB7 (op2 : Byte) (s : State) : Host.Outcome State Fault Refusal :=
  raiseUnimplementedExtended op2 s

/-- Extended entries 0xB8..0xBF (R145). -/
def execUnimplCbB8ToBF (op2 : Byte) (s : State) : Host.Outcome State Fault Refusal :=
  raiseUnimplementedExtended op2 s

/-- Extended entries 0xC0..0xC7 (R145). -/
def execUnimplCbC0ToC7 (op2 : Byte) (s : State) : Host.Outcome State Fault Refusal :=
  raiseUnimplementedExtended op2 s

/-- Extended entries 0xC8..0xCF (R145). -/
def execUnimplCbC8ToCF (op2 : Byte) (s : State) : Host.Outcome State Fault Refusal :=
  raiseUnimplementedExtended op2 s

/-- Extended entries 0xD0..0xD7 (R145). -/
def execUnimplCbD0ToD7 (op2 : Byte) (s : State) : Host.Outcome State Fault Refusal :=
  raiseUnimplementedExtended op2 s

/-- Extended entries 0xD8..0xDF (R145). -/
def execUnimplCbD8ToDF (op2 : Byte) (s : State) : Host.Outcome State Fault Refusal :=
  raiseUnimplementedExtended op2 s

/-- Extended entries 0xE0..0xE7 (R145). -/
def execUnimplCbE0ToE7 (op2 : Byte) (s : State) : Host.Outcome State Fault Refusal :=
  raiseUnimplementedExtended op2 s

/-- Extended entries 0xE8..0xEF (R145). -/
def execUnimplCbE8ToEF (op2 : Byte) (s : State) : Host.Outcome State Fault Refusal :=
  raiseUnimplementedExtended op2 s

/-- Extended entries 0xF0..0xF7 (R145). -/
def execUnimplCbF0ToF7 (op2 : Byte) (s : State) : Host.Outcome State Fault Refusal :=
  raiseUnimplementedExtended op2 s

/-- Extended entries 0xF8..0xFF (R145). -/
def execUnimplCbF8ToFF (op2 : Byte) (s : State) : Host.Outcome State Fault Refusal :=
  raiseUnimplementedExtended op2 s

/-- `dispatch EXT[op2]` (R143): the meaning of the entry of the extended table. -/
def dispatchExtended (op2 : Byte) (s : State) : Host.Outcome State Fault Refusal :=
  match op2.toNat / 8 with
  | 0 => execUnimplCb00To07 op2 s
  | 1 => execUnimplCb08To0F op2 s
  | 2 => execUnimplCb10To17 op2 s
  | 3 => execUnimplCb18To1F op2 s
  | 4 => execUnimplCb20To27 op2 s
  | 5 => execUnimplCb28To2F op2 s
  | 6 => execUnimplCb30To37 op2 s
  | 7 => execUnimplCb38To3F op2 s
  | 8 => execUnimplCb40To47 op2 s
  | 9 => execUnimplCb48To4F op2 s
  | 10 => execUnimplCb50To57 op2 s
  | 11 => execUnimplCb58To5F op2 s
  | 12 => execUnimplCb60To67 op2 s
  | 13 => execUnimplCb68To6F op2 s
  | 14 => execUnimplCb70To77 op2 s
  | 15 => execUnimplCb78To7F op2 s
  | 16 => execUnimplCb80To87 op2 s
  | 17 => execUnimplCb88To8F op2 s
  | 18 => execUnimplCb90To97 op2 s
  | 19 => execUnimplCb98To9F op2 s
  | 20 => execUnimplCbA0ToA7 op2 s
  | 21 => execUnimplCbA8ToAF op2 s
  | 22 => execUnimplCbB0ToB7 op2 s
  | 23 => execUnimplCbB8ToBF op2 s
  | 24 => execUnimplCbC0ToC7 op2 s
  | 25 => execUnimplCbC8ToCF op2 s
  | 26 => execUnimplCbD0ToD7 op2 s
  | 27 => execUnimplCbD8ToDF op2 s
  | 28 => execUnimplCbE0ToE7 op2 s
  | 29 => execUnimplCbE8ToEF op2 s
  | 30 => execUnimplCbF0ToF7 op2 s
  | _ => execUnimplCbF8ToFF op2 s

/-- The byte that selects the extended table (R143): the second opcode byte is fetched, then the extended table
dispatched (DEDUCED, safe: log entry 9). -/
def execPrefixByte (s : State) : Host.Outcome State Fault Refusal :=
  match fetch8 s with
  | .ok op2 s' => dispatchExtended op2 s'
  | .raise e s' => .next (takeCondition e s')

end Sys2Proof.Machine
end

