-- ==== Sys2Proof/Machine/Dispatch.lean ====
section
/-! DEFINITION. The dispatch of every instruction to its meaning (R142). -/

namespace Sys2Proof.Machine

def exec (i : Instr) (s : State) : Host.Outcome State Fault Refusal :=
  match i with
  | .unimpl00 => Sys2Proof.Machine.execUnimpl00 s
  | .ldBcD16 b1 b2 => Sys2Proof.Machine.execLdBcD16 b1 b2 s
  | .unimpl02 => Sys2Proof.Machine.execUnimpl02 s
  | .unimpl03 => Sys2Proof.Machine.execUnimpl03 s
  | .incB => Sys2Proof.Machine.execIncB s
  | .decB => Sys2Proof.Machine.execDecB s
  | .ldBD8 d8 => Sys2Proof.Machine.execLdBD8 d8 s
  | .unimpl07 => Sys2Proof.Machine.execUnimpl07 s
  | .unimpl08 => Sys2Proof.Machine.execUnimpl08 s
  | .unimpl09 => Sys2Proof.Machine.execUnimpl09 s
  | .unimpl0A => Sys2Proof.Machine.execUnimpl0A s
  | .unimpl0B => Sys2Proof.Machine.execUnimpl0B s
  | .incC => Sys2Proof.Machine.execIncC s
  | .decC => Sys2Proof.Machine.execDecC s
  | .ldCD8 d8 => Sys2Proof.Machine.execLdCD8 d8 s
  | .unimpl0F => Sys2Proof.Machine.execUnimpl0F s
  | .unimpl10 => Sys2Proof.Machine.execUnimpl10 s
  | .ldDeD16 b1 b2 => Sys2Proof.Machine.execLdDeD16 b1 b2 s
  | .unimpl12 => Sys2Proof.Machine.execUnimpl12 s
  | .unimpl13 => Sys2Proof.Machine.execUnimpl13 s
  | .incD => Sys2Proof.Machine.execIncD s
  | .decD => Sys2Proof.Machine.execDecD s
  | .ldDD8 d8 => Sys2Proof.Machine.execLdDD8 d8 s
  | .unimpl17 => Sys2Proof.Machine.execUnimpl17 s
  | .unimpl18 => Sys2Proof.Machine.execUnimpl18 s
  | .unimpl19 => Sys2Proof.Machine.execUnimpl19 s
  | .unimpl1A => Sys2Proof.Machine.execUnimpl1A s
  | .unimpl1B => Sys2Proof.Machine.execUnimpl1B s
  | .incE => Sys2Proof.Machine.execIncE s
  | .decE => Sys2Proof.Machine.execDecE s
  | .ldED8 d8 => Sys2Proof.Machine.execLdED8 d8 s
  | .unimpl1F => Sys2Proof.Machine.execUnimpl1F s
  | .unimpl20 => Sys2Proof.Machine.execUnimpl20 s
  | .ldHlD16 b1 b2 => Sys2Proof.Machine.execLdHlD16 b1 b2 s
  | .unimpl22 => Sys2Proof.Machine.execUnimpl22 s
  | .unimpl23 => Sys2Proof.Machine.execUnimpl23 s
  | .incH => Sys2Proof.Machine.execIncH s
  | .decH => Sys2Proof.Machine.execDecH s
  | .ldHD8 d8 => Sys2Proof.Machine.execLdHD8 d8 s
  | .unimpl27 => Sys2Proof.Machine.execUnimpl27 s
  | .unimpl28 => Sys2Proof.Machine.execUnimpl28 s
  | .unimpl29 => Sys2Proof.Machine.execUnimpl29 s
  | .unimpl2A => Sys2Proof.Machine.execUnimpl2A s
  | .unimpl2B => Sys2Proof.Machine.execUnimpl2B s
  | .incL => Sys2Proof.Machine.execIncL s
  | .decL => Sys2Proof.Machine.execDecL s
  | .ldLD8 d8 => Sys2Proof.Machine.execLdLD8 d8 s
  | .unimpl2F => Sys2Proof.Machine.execUnimpl2F s
  | .unimpl30 => Sys2Proof.Machine.execUnimpl30 s
  | .ldSpD16 b1 b2 => Sys2Proof.Machine.execLdSpD16 b1 b2 s
  | .unimpl32 => Sys2Proof.Machine.execUnimpl32 s
  | .unimpl33 => Sys2Proof.Machine.execUnimpl33 s
  | .incAtHl => Sys2Proof.Machine.execIncAtHl s
  | .decAtHl => Sys2Proof.Machine.execDecAtHl s
  | .ldAtHlD8 d8 => Sys2Proof.Machine.execLdAtHlD8 d8 s
  | .unimpl37 => Sys2Proof.Machine.execUnimpl37 s
  | .unimpl38 => Sys2Proof.Machine.execUnimpl38 s
  | .unimpl39 => Sys2Proof.Machine.execUnimpl39 s
  | .unimpl3A => Sys2Proof.Machine.execUnimpl3A s
  | .unimpl3B => Sys2Proof.Machine.execUnimpl3B s
  | .incA => Sys2Proof.Machine.execIncA s
  | .decA => Sys2Proof.Machine.execDecA s
  | .ldAD8 d8 => Sys2Proof.Machine.execLdAD8 d8 s
  | .unimpl3F => Sys2Proof.Machine.execUnimpl3F s
  | .ldBB => Sys2Proof.Machine.execLdBB s
  | .ldBC => Sys2Proof.Machine.execLdBC s
  | .ldBD => Sys2Proof.Machine.execLdBD s
  | .ldBE => Sys2Proof.Machine.execLdBE s
  | .ldBH => Sys2Proof.Machine.execLdBH s
  | .ldBL => Sys2Proof.Machine.execLdBL s
  | .ldBAtHl => Sys2Proof.Machine.execLdBAtHl s
  | .ldBA => Sys2Proof.Machine.execLdBA s
  | .ldCB => Sys2Proof.Machine.execLdCB s
  | .ldCC => Sys2Proof.Machine.execLdCC s
  | .ldCD => Sys2Proof.Machine.execLdCD s
  | .ldCE => Sys2Proof.Machine.execLdCE s
  | .ldCH => Sys2Proof.Machine.execLdCH s
  | .ldCL => Sys2Proof.Machine.execLdCL s
  | .ldCAtHl => Sys2Proof.Machine.execLdCAtHl s
  | .ldCA => Sys2Proof.Machine.execLdCA s
  | .ldDB => Sys2Proof.Machine.execLdDB s
  | .ldDC => Sys2Proof.Machine.execLdDC s
  | .ldDD => Sys2Proof.Machine.execLdDD s
  | .ldDE => Sys2Proof.Machine.execLdDE s
  | .ldDH => Sys2Proof.Machine.execLdDH s
  | .ldDL => Sys2Proof.Machine.execLdDL s
  | .ldDAtHl => Sys2Proof.Machine.execLdDAtHl s
  | .ldDA => Sys2Proof.Machine.execLdDA s
  | .ldEB => Sys2Proof.Machine.execLdEB s
  | .ldEC => Sys2Proof.Machine.execLdEC s
  | .ldED => Sys2Proof.Machine.execLdED s
  | .ldEE => Sys2Proof.Machine.execLdEE s
  | .ldEH => Sys2Proof.Machine.execLdEH s
  | .ldEL => Sys2Proof.Machine.execLdEL s
  | .ldEAtHl => Sys2Proof.Machine.execLdEAtHl s
  | .ldEA => Sys2Proof.Machine.execLdEA s
  | .ldHB => Sys2Proof.Machine.execLdHB s
  | .ldHC => Sys2Proof.Machine.execLdHC s
  | .ldHD => Sys2Proof.Machine.execLdHD s
  | .ldHE => Sys2Proof.Machine.execLdHE s
  | .ldHH => Sys2Proof.Machine.execLdHH s
  | .ldHL => Sys2Proof.Machine.execLdHL s
  | .ldHAtHl => Sys2Proof.Machine.execLdHAtHl s
  | .ldHA => Sys2Proof.Machine.execLdHA s
  | .ldLB => Sys2Proof.Machine.execLdLB s
  | .ldLC => Sys2Proof.Machine.execLdLC s
  | .ldLD => Sys2Proof.Machine.execLdLD s
  | .ldLE => Sys2Proof.Machine.execLdLE s
  | .ldLH => Sys2Proof.Machine.execLdLH s
  | .ldLL => Sys2Proof.Machine.execLdLL s
  | .ldLAtHl => Sys2Proof.Machine.execLdLAtHl s
  | .ldLA => Sys2Proof.Machine.execLdLA s
  | .ldAtHlB => Sys2Proof.Machine.execLdAtHlB s
  | .ldAtHlC => Sys2Proof.Machine.execLdAtHlC s
  | .ldAtHlD => Sys2Proof.Machine.execLdAtHlD s
  | .ldAtHlE => Sys2Proof.Machine.execLdAtHlE s
  | .ldAtHlH => Sys2Proof.Machine.execLdAtHlH s
  | .ldAtHlL => Sys2Proof.Machine.execLdAtHlL s
  | .unimpl76 => Sys2Proof.Machine.execUnimpl76 s
  | .ldAtHlA => Sys2Proof.Machine.execLdAtHlA s
  | .ldAB => Sys2Proof.Machine.execLdAB s
  | .ldAC => Sys2Proof.Machine.execLdAC s
  | .ldAD => Sys2Proof.Machine.execLdAD s
  | .ldAE => Sys2Proof.Machine.execLdAE s
  | .ldAH => Sys2Proof.Machine.execLdAH s
  | .ldAL => Sys2Proof.Machine.execLdAL s
  | .ldAAtHl => Sys2Proof.Machine.execLdAAtHl s
  | .ldAA => Sys2Proof.Machine.execLdAA s
  | .addAB => Sys2Proof.Machine.execAddAB s
  | .addAC => Sys2Proof.Machine.execAddAC s
  | .addAD => Sys2Proof.Machine.execAddAD s
  | .addAE => Sys2Proof.Machine.execAddAE s
  | .addAH => Sys2Proof.Machine.execAddAH s
  | .addAL => Sys2Proof.Machine.execAddAL s
  | .addAAtHl => Sys2Proof.Machine.execAddAAtHl s
  | .addAA => Sys2Proof.Machine.execAddAA s
  | .unimpl88 => Sys2Proof.Machine.execUnimpl88 s
  | .unimpl89 => Sys2Proof.Machine.execUnimpl89 s
  | .unimpl8A => Sys2Proof.Machine.execUnimpl8A s
  | .unimpl8B => Sys2Proof.Machine.execUnimpl8B s
  | .unimpl8C => Sys2Proof.Machine.execUnimpl8C s
  | .unimpl8D => Sys2Proof.Machine.execUnimpl8D s
  | .unimpl8E => Sys2Proof.Machine.execUnimpl8E s
  | .unimpl8F => Sys2Proof.Machine.execUnimpl8F s
  | .subB => Sys2Proof.Machine.execSubB s
  | .subC => Sys2Proof.Machine.execSubC s
  | .subD => Sys2Proof.Machine.execSubD s
  | .subE => Sys2Proof.Machine.execSubE s
  | .subH => Sys2Proof.Machine.execSubH s
  | .subL => Sys2Proof.Machine.execSubL s
  | .subAtHl => Sys2Proof.Machine.execSubAtHl s
  | .subA => Sys2Proof.Machine.execSubA s
  | .unimpl98 => Sys2Proof.Machine.execUnimpl98 s
  | .unimpl99 => Sys2Proof.Machine.execUnimpl99 s
  | .unimpl9A => Sys2Proof.Machine.execUnimpl9A s
  | .unimpl9B => Sys2Proof.Machine.execUnimpl9B s
  | .unimpl9C => Sys2Proof.Machine.execUnimpl9C s
  | .unimpl9D => Sys2Proof.Machine.execUnimpl9D s
  | .unimpl9E => Sys2Proof.Machine.execUnimpl9E s
  | .unimpl9F => Sys2Proof.Machine.execUnimpl9F s
  | .andB => Sys2Proof.Machine.execAndB s
  | .andC => Sys2Proof.Machine.execAndC s
  | .andD => Sys2Proof.Machine.execAndD s
  | .andE => Sys2Proof.Machine.execAndE s
  | .andH => Sys2Proof.Machine.execAndH s
  | .andL => Sys2Proof.Machine.execAndL s
  | .andAtHl => Sys2Proof.Machine.execAndAtHl s
  | .andA => Sys2Proof.Machine.execAndA s
  | .xorB => Sys2Proof.Machine.execXorB s
  | .xorC => Sys2Proof.Machine.execXorC s
  | .xorD => Sys2Proof.Machine.execXorD s
  | .xorE => Sys2Proof.Machine.execXorE s
  | .xorH => Sys2Proof.Machine.execXorH s
  | .xorL => Sys2Proof.Machine.execXorL s
  | .xorAtHl => Sys2Proof.Machine.execXorAtHl s
  | .xorA => Sys2Proof.Machine.execXorA s
  | .orB => Sys2Proof.Machine.execOrB s
  | .orC => Sys2Proof.Machine.execOrC s
  | .orD => Sys2Proof.Machine.execOrD s
  | .orE => Sys2Proof.Machine.execOrE s
  | .orH => Sys2Proof.Machine.execOrH s
  | .orL => Sys2Proof.Machine.execOrL s
  | .orAtHl => Sys2Proof.Machine.execOrAtHl s
  | .orA => Sys2Proof.Machine.execOrA s
  | .cpB => Sys2Proof.Machine.execCpB s
  | .cpC => Sys2Proof.Machine.execCpC s
  | .cpD => Sys2Proof.Machine.execCpD s
  | .cpE => Sys2Proof.Machine.execCpE s
  | .cpH => Sys2Proof.Machine.execCpH s
  | .cpL => Sys2Proof.Machine.execCpL s
  | .cpAtHl => Sys2Proof.Machine.execCpAtHl s
  | .cpA => Sys2Proof.Machine.execCpA s
  | .unimplC0 => Sys2Proof.Machine.execUnimplC0 s
  | .popBc => Sys2Proof.Machine.execPopBc s
  | .unimplC2 => Sys2Proof.Machine.execUnimplC2 s
  | .unimplC3 => Sys2Proof.Machine.execUnimplC3 s
  | .unimplC4 => Sys2Proof.Machine.execUnimplC4 s
  | .pushBc => Sys2Proof.Machine.execPushBc s
  | .addAD8 d8 => Sys2Proof.Machine.execAddAD8 d8 s
  | .unimplC7 => Sys2Proof.Machine.execUnimplC7 s
  | .unimplC8 => Sys2Proof.Machine.execUnimplC8 s
  | .ret => Sys2Proof.Machine.execRet s
  | .unimplCA => Sys2Proof.Machine.execUnimplCA s
  | .prefixByte => Sys2Proof.Machine.execPrefixByte s
  | .unimplCC => Sys2Proof.Machine.execUnimplCC s
  | .callA16 b1 b2 => Sys2Proof.Machine.execCallA16 b1 b2 s
  | .unimplCE => Sys2Proof.Machine.execUnimplCE s
  | .unimplCF => Sys2Proof.Machine.execUnimplCF s
  | .unimplD0 => Sys2Proof.Machine.execUnimplD0 s
  | .popDe => Sys2Proof.Machine.execPopDe s
  | .unimplD2 => Sys2Proof.Machine.execUnimplD2 s
  | .unimplD3 => Sys2Proof.Machine.execUnimplD3 s
  | .unimplD4 => Sys2Proof.Machine.execUnimplD4 s
  | .pushDe => Sys2Proof.Machine.execPushDe s
  | .subD8 d8 => Sys2Proof.Machine.execSubD8 d8 s
  | .unimplD7 => Sys2Proof.Machine.execUnimplD7 s
  | .unimplD8 => Sys2Proof.Machine.execUnimplD8 s
  | .unimplD9 => Sys2Proof.Machine.execUnimplD9 s
  | .unimplDA => Sys2Proof.Machine.execUnimplDA s
  | .unimplDB => Sys2Proof.Machine.execUnimplDB s
  | .unimplDC => Sys2Proof.Machine.execUnimplDC s
  | .unimplDD => Sys2Proof.Machine.execUnimplDD s
  | .unimplDE => Sys2Proof.Machine.execUnimplDE s
  | .unimplDF => Sys2Proof.Machine.execUnimplDF s
  | .unimplE0 => Sys2Proof.Machine.execUnimplE0 s
  | .popHl => Sys2Proof.Machine.execPopHl s
  | .unimplE2 => Sys2Proof.Machine.execUnimplE2 s
  | .unimplE3 => Sys2Proof.Machine.execUnimplE3 s
  | .unimplE4 => Sys2Proof.Machine.execUnimplE4 s
  | .pushHl => Sys2Proof.Machine.execPushHl s
  | .andD8 d8 => Sys2Proof.Machine.execAndD8 d8 s
  | .unimplE7 => Sys2Proof.Machine.execUnimplE7 s
  | .unimplE8 => Sys2Proof.Machine.execUnimplE8 s
  | .unimplE9 => Sys2Proof.Machine.execUnimplE9 s
  | .ldAtA16A b1 b2 => Sys2Proof.Machine.execLdAtA16A b1 b2 s
  | .unimplEB => Sys2Proof.Machine.execUnimplEB s
  | .unimplEC => Sys2Proof.Machine.execUnimplEC s
  | .unimplED => Sys2Proof.Machine.execUnimplED s
  | .xorD8 d8 => Sys2Proof.Machine.execXorD8 d8 s
  | .unimplEF => Sys2Proof.Machine.execUnimplEF s
  | .unimplF0 => Sys2Proof.Machine.execUnimplF0 s
  | .unimplF1 => Sys2Proof.Machine.execUnimplF1 s
  | .unimplF2 => Sys2Proof.Machine.execUnimplF2 s
  | .di => Sys2Proof.Machine.execDi s
  | .unimplF4 => Sys2Proof.Machine.execUnimplF4 s
  | .unimplF5 => Sys2Proof.Machine.execUnimplF5 s
  | .orD8 d8 => Sys2Proof.Machine.execOrD8 d8 s
  | .unimplF7 => Sys2Proof.Machine.execUnimplF7 s
  | .ldHlSpR8 r8 => Sys2Proof.Machine.execLdHlSpR8 r8 s
  | .unimplF9 => Sys2Proof.Machine.execUnimplF9 s
  | .unimplFA => Sys2Proof.Machine.execUnimplFA s
  | .ei => Sys2Proof.Machine.execEi s
  | .unimplFC => Sys2Proof.Machine.execUnimplFC s
  | .unimplFD => Sys2Proof.Machine.execUnimplFD s
  | .cpD8 d8 => Sys2Proof.Machine.execCpD8 d8 s
  | .unimplFF => Sys2Proof.Machine.execUnimplFF s
  | .unimplCb00To07 op2 => Sys2Proof.Machine.execUnimplCb00To07 op2 s
  | .unimplCb08To0F op2 => Sys2Proof.Machine.execUnimplCb08To0F op2 s
  | .unimplCb10To17 op2 => Sys2Proof.Machine.execUnimplCb10To17 op2 s
  | .unimplCb18To1F op2 => Sys2Proof.Machine.execUnimplCb18To1F op2 s
  | .unimplCb20To27 op2 => Sys2Proof.Machine.execUnimplCb20To27 op2 s
  | .unimplCb28To2F op2 => Sys2Proof.Machine.execUnimplCb28To2F op2 s
  | .unimplCb30To37 op2 => Sys2Proof.Machine.execUnimplCb30To37 op2 s
  | .unimplCb38To3F op2 => Sys2Proof.Machine.execUnimplCb38To3F op2 s
  | .unimplCb40To47 op2 => Sys2Proof.Machine.execUnimplCb40To47 op2 s
  | .unimplCb48To4F op2 => Sys2Proof.Machine.execUnimplCb48To4F op2 s
  | .unimplCb50To57 op2 => Sys2Proof.Machine.execUnimplCb50To57 op2 s
  | .unimplCb58To5F op2 => Sys2Proof.Machine.execUnimplCb58To5F op2 s
  | .unimplCb60To67 op2 => Sys2Proof.Machine.execUnimplCb60To67 op2 s
  | .unimplCb68To6F op2 => Sys2Proof.Machine.execUnimplCb68To6F op2 s
  | .unimplCb70To77 op2 => Sys2Proof.Machine.execUnimplCb70To77 op2 s
  | .unimplCb78To7F op2 => Sys2Proof.Machine.execUnimplCb78To7F op2 s
  | .unimplCb80To87 op2 => Sys2Proof.Machine.execUnimplCb80To87 op2 s
  | .unimplCb88To8F op2 => Sys2Proof.Machine.execUnimplCb88To8F op2 s
  | .unimplCb90To97 op2 => Sys2Proof.Machine.execUnimplCb90To97 op2 s
  | .unimplCb98To9F op2 => Sys2Proof.Machine.execUnimplCb98To9F op2 s
  | .unimplCbA0ToA7 op2 => Sys2Proof.Machine.execUnimplCbA0ToA7 op2 s
  | .unimplCbA8ToAF op2 => Sys2Proof.Machine.execUnimplCbA8ToAF op2 s
  | .unimplCbB0ToB7 op2 => Sys2Proof.Machine.execUnimplCbB0ToB7 op2 s
  | .unimplCbB8ToBF op2 => Sys2Proof.Machine.execUnimplCbB8ToBF op2 s
  | .unimplCbC0ToC7 op2 => Sys2Proof.Machine.execUnimplCbC0ToC7 op2 s
  | .unimplCbC8ToCF op2 => Sys2Proof.Machine.execUnimplCbC8ToCF op2 s
  | .unimplCbD0ToD7 op2 => Sys2Proof.Machine.execUnimplCbD0ToD7 op2 s
  | .unimplCbD8ToDF op2 => Sys2Proof.Machine.execUnimplCbD8ToDF op2 s
  | .unimplCbE0ToE7 op2 => Sys2Proof.Machine.execUnimplCbE0ToE7 op2 s
  | .unimplCbE8ToEF op2 => Sys2Proof.Machine.execUnimplCbE8ToEF op2 s
  | .unimplCbF0ToF7 op2 => Sys2Proof.Machine.execUnimplCbF0ToF7 op2 s
  | .unimplCbF8ToFF op2 => Sys2Proof.Machine.execUnimplCbF8ToFF op2 s

end Sys2Proof.Machine
end

