-- ==== Sys2Proof/Machine/Fetch.lean ====
section
/-! DEFINITION. Fetching an instruction (R142, R113), the order of a step (R140), and placing a byte where the machine
reads it. -/

namespace Sys2Proof.Machine

/-- Fetch and table lookup (R142): the opcode byte, then the immediate bytes its entry asks for, in address order. The
byte `cfg.PREFIX` alone selects R143, whose meaning fetches the second opcode byte (log entry 9); the table's own cell for it is no
admitted entry, so under another prefix that byte raises (DEDUCED, safe: log entry 19). The immediates are fetched here and not in
the meaning: the accesses stand in the order of the pseudocode (DEDUCED, safe: log entry 10). -/
def fetchInstr (s : State) : Res Instr :=
  (fetch8 s).andThen fun op s1 =>
    if op = s.cfg.prefixByte then .ok .prefixByte s1
    else
      match primaryTable op with
      | .op i => .ok i s1
      | .imm8 make => (fetch8 s1).andThen fun b1 s2 => .ok (make b1) s2
      | .imm16 make =>
        (fetch8 s1).andThen fun b1 s2 => (fetch8 s2).andThen fun b2 s3 => .ok (make b1 b2) s3
      | .extended => .raise (.unimplementedOpcode op) s1

/-- The extra cycles of an instruction that its meaning does not count (R146): none for those whose rule places them (R167, R221,
R223, R224), all of `cfg.EXTRA_M` for the others, which at the defaults is none. -/
def restCycles (cfg : Cfg) (i : Instr) : Nat :=
  match i with
  | .ldHlSpR8 _ => 0
  | .pushBc | .pushDe | .pushHl => 0
  | .callA16 _ _ => 0
  | .ret => 0
  | _ => cfg.extraCycles i.opcode

/-- The end of a step (R146, R148): where the instruction raised nothing, the extra cycles its meaning left are counted (DEDUCED,
safe: log entry 21). -/
def endStep (i : Instr) (outcome : Host.Outcome State Fault Refusal) : Host.Outcome State Fault Refusal :=
  match outcome with
  | .next t =>
    match t.fault with
    | none => .next (t.tick (restCycles t.cfg i))
    | some _ => .next t
  | .fault e => .fault e
  | .refused r => .refused r

/-- `step()` (R140) over the dispatch `run`: a latched condition is answered again (R275); otherwise resolve, fetch and
dispatch, and the selected operation to its end. -/
def runStep (run : Instr → State → Host.Outcome State Fault Refusal) (s : State) :
    Host.Outcome State Fault Refusal :=
  match s.fault with
  | some e => .fault e
  | none =>
    match fetchInstr s.resolve with
    | .ok i s' => endStep i (run i s')
    | .raise e s' => .next (takeCondition e s')

/-- The host's placing of a byte in the storage that answers a read of `a`: an image, a RAM byte or a register. An address
whose read is a draw or raises has no storage, and nothing changes. No step uses it (DESIGN CHOICE, safe: log entry 16). -/
def State.place (s : State) (a : Word) (v : Byte) : State :=
  match s.ownerOf a with
  | .bootRom => { s with cfg := { s.cfg with boot := s.cfg.boot.map fun image => Memory.writeByte image a.toNat v } }
  | .romLow => { s with cfg := { s.cfg with cart := Memory.writeByte s.cfg.cart a.toNat v } }
  | .romHigh => { s with cfg := { s.cfg with cart := Memory.writeByte s.cfg.cart a.toNat v } }
  | .ram k => { s with mem := Memory.writeByte s.mem k v }
  | .ifByte => { s with ifReg := v }
  | .ieByte => { s with ieReg := v }
  | .lcdc => { s with lcdc := v }
  | .stat => { s with stat := v }
  | .scy => { s with scy := v }
  | .scx => { s with scx := v }
  | .ly => s
  | .bgp => { s with bgp := v }
  | .bootComplete => s
  | .nobody => s

/-- Bytes placed at consecutive addresses from `a` on (R110: addresses wrap). -/
def State.placeBytes (s : State) (a : Word) (bytes : List Byte) : State :=
  match bytes with
  | [] => s
  | v :: rest => State.placeBytes (s.place a v) (a + 1) rest

end Sys2Proof.Machine
end

