-- ==== Sys2Proof/Machine/Step.lean ====
section
/-! DEFINITION. The step of the machine (R140), and a state with an instruction placed where the step fetches it. -/

namespace Sys2Proof.Machine

/-- `step()` (R140). -/
def step (s : State) : Host.Outcome State Fault Refusal := runStep exec s

/-- `s` with the instruction of the table word `w` placed at PC, zeros after it up to three bytes, the length of the
longest instruction (R110). It stands for the load of a program from outside the machine (DESIGN CHOICE, safe: log
entry 5). -/
def State.withFetchWord (s : State) (nbits w : Nat) : State :=
  s.placeBytes s.pc ((tableBytes (nbits / 8) w ++ [0x00, 0x00, 0x00]).take 3)

end Sys2Proof.Machine
end

