-- ==== Sys2Proof/Machine/Launch.lean ====
section
/-! DEFINITION. What the host does between steps (R10, R28, R301): it supplies the configuration and the images before the
first step and may set the counters to zero. -/

namespace Sys2Proof.Machine

/-- Whether a boot image, if there is one, is 256 bytes (R301, U9). -/
def bootImageFits (boot : Option (List Byte)) : Bool :=
  match boot with
  | none => true
  | some bytes => bytes.length == 256

/-- The launch (R47, R301): the state after reset of a configuration with the images the host chose. An image of another size is
refused (decision D21; DESIGN CHOICE, safe: log entry 14). -/
def launch (cfg : Cfg) (cart : List Byte) (boot : Option (List Byte)) : Option State :=
  if cart.length = 32768 ∧ bootImageFits boot = true then
    some (State.start { cfg with cart := Memory.ofBytes 0 cart, boot := boot.map (Memory.ofBytes 0) })
  else none

/-- The host's reset of the cycle counters between steps (R28; DESIGN CHOICE, safe: log entry 16). -/
def State.zeroCounters (s : State) : State := { s with m := 0, t := 0 }

end Sys2Proof.Machine
end

