-- ==== Sys2Proof/Machine/Ppu.lean ====
section
/-! DEFINITION. The pixel function of the PPU block (45_ppu_decode.md, R242 to R249, R252): a pure read of VRAM and of
the PPU registers, called by the presentation side on the state of a step boundary (R88). -/

namespace Sys2Proof.Machine

/-- The addresses of VRAM (R61, R243). -/
def inVram (a : Nat) : Bool := 0x8000 ≤ a && a ≤ 0x9FFF

/-- `VRAM[a - 0x8000]`, for `a` in VRAM: read straight from storage, not through the bus (R243). -/
def State.vramByte (s : State) (a : Nat) : Byte := Memory.readByte s.mem a

/-- Scroll (R245): effective background coordinates, wrapping at 256. -/
def State.scroll (s : State) (x y : Nat) : Nat × Nat :=
  ((x + s.scx.toNat) % 256, (y + s.scy.toNat) % 256)

/-- The address of the map cell of R246. -/
def State.mapAddress (s : State) (ex ey : Nat) : Nat :=
  let base := if s.lcdc.getLsbD s.cfg.lcdcMapBit then s.cfg.mapBase1 else s.cfg.mapBase0
  base.toNat + (ey / 8 * 32 + ex / 8)

/-- Map lookup (R246): the tile index of a background cell. -/
def State.mapLookup (s : State) (ex ey : Nat) : Byte := s.vramByte (s.mapAddress ex ey)

/-- Tile address (R247): the unsigned mode, or the signed mode from the second base. -/
def State.tileAddress (s : State) (idx : Byte) : Nat :=
  if s.lcdc.getLsbD s.cfg.lcdcDataBit then s.cfg.dataBaseU.toNat + 16 * idx.toNat
  else ((s.cfg.dataBaseS.toNat : Int) + 16 * idx.toInt).toNat

/-- Row decode (R248): the colour index of column `c`, 0 leftmost, of row `k` of the tile at `t`; the lower byte of a row
pair stands at the lower address (R242). -/
def State.rowDecode (s : State) (t k c : Nat) : BitVec 2 :=
  let lo := s.vramByte (t + 2 * k)
  let hi := s.vramByte (t + 2 * k + 1)
  (BitVec.ofBool (hi.getLsbD (7 - c)) ++ BitVec.ofBool (lo.getLsbD (7 - c)) : BitVec (1 + 1))

/-- Palette (R249): slot `ci` of BGP, bits `2 ci + 1 .. 2 ci`. -/
def State.palette (s : State) (ci : BitVec 2) : BitVec 2 := s.bgp.extractLsb' (2 * ci.toNat) 2

/-- The shade at background coordinates: R246 to R249 in order. An address outside VRAM has no byte, so a configuration whose bases
lead there gives no shade; at the defaults none does (R243; DESIGN CHOICE, safe: log entry 22). -/
def State.shadeAt (s : State) (ex ey : Nat) : Option (BitVec 2) :=
  let tile := s.tileAddress (s.mapLookup ex ey)
  let row := tile + 2 * (ey % 8)
  if inVram (s.mapAddress ex ey) && inVram row && inVram (row + 1) then
    some (s.palette (s.rowDecode tile (ey % 8) (ex % 8)))
  else none

/-- `pixel(x, y)` (R244): the shade at a screen coordinate; a coordinate outside the visible window is refused (R252;
DESIGN CHOICE, safe: log entry 14). -/
def State.pixel (s : State) (x y : Nat) : Option (BitVec 2) :=
  if x < s.cfg.screenW ∧ y < s.cfg.screenH then
    let (ex, ey) := s.scroll x y
    s.shadeAt ex ey
  else none

end Sys2Proof.Machine
end

