-- ==== Sys2Proof/Machine/Forms.lean ====
section
/-! DEFINITION. The instruction families of the encodings (R111, R115), each as a function of its fields: the words in
which claims name the instructions of one shape together. No step uses them. -/

namespace Sys2Proof

open Sys2Proof.Machine

/-- `LD r,d8` (R160). -/
def Instr.ldRegImm8 : Reg8 → Byte → Instr
  | .b, d8 => .ldBD8 d8
  | .c, d8 => .ldCD8 d8
  | .d, d8 => .ldDD8 d8
  | .e, d8 => .ldED8 d8
  | .h, d8 => .ldHD8 d8
  | .l, d8 => .ldLD8 d8
  | .a, d8 => .ldAD8 d8

/-- `LD rr,d16` for a register pair (R162). -/
def Instr.ldPairImm16 : Pair → Byte → Byte → Instr
  | .bc, b1, b2 => .ldBcD16 b1 b2
  | .de, b1, b2 => .ldDeD16 b1 b2
  | .hl, b1, b2 => .ldHlD16 b1 b2

/-- `LD r,r'` (R163): destination, source. -/
def Instr.ldRegReg : Reg8 → Reg8 → Instr
  | .b, .b => .ldBB
  | .b, .c => .ldBC
  | .b, .d => .ldBD
  | .b, .e => .ldBE
  | .b, .h => .ldBH
  | .b, .l => .ldBL
  | .b, .a => .ldBA
  | .c, .b => .ldCB
  | .c, .c => .ldCC
  | .c, .d => .ldCD
  | .c, .e => .ldCE
  | .c, .h => .ldCH
  | .c, .l => .ldCL
  | .c, .a => .ldCA
  | .d, .b => .ldDB
  | .d, .c => .ldDC
  | .d, .d => .ldDD
  | .d, .e => .ldDE
  | .d, .h => .ldDH
  | .d, .l => .ldDL
  | .d, .a => .ldDA
  | .e, .b => .ldEB
  | .e, .c => .ldEC
  | .e, .d => .ldED
  | .e, .e => .ldEE
  | .e, .h => .ldEH
  | .e, .l => .ldEL
  | .e, .a => .ldEA
  | .h, .b => .ldHB
  | .h, .c => .ldHC
  | .h, .d => .ldHD
  | .h, .e => .ldHE
  | .h, .h => .ldHH
  | .h, .l => .ldHL
  | .h, .a => .ldHA
  | .l, .b => .ldLB
  | .l, .c => .ldLC
  | .l, .d => .ldLD
  | .l, .e => .ldLE
  | .l, .h => .ldLH
  | .l, .l => .ldLL
  | .l, .a => .ldLA
  | .a, .b => .ldAB
  | .a, .c => .ldAC
  | .a, .d => .ldAD
  | .a, .e => .ldAE
  | .a, .h => .ldAH
  | .a, .l => .ldAL
  | .a, .a => .ldAA

/-- `LD r,(HL)` (R164). -/
def Instr.ldRegAtHl : Reg8 → Instr
  | .b => .ldBAtHl
  | .c => .ldCAtHl
  | .d => .ldDAtHl
  | .e => .ldEAtHl
  | .h => .ldHAtHl
  | .l => .ldLAtHl
  | .a => .ldAAtHl

/-- `LD (HL),r` (R165). -/
def Instr.ldAtHlReg : Reg8 → Instr
  | .b => .ldAtHlB
  | .c => .ldAtHlC
  | .d => .ldAtHlD
  | .e => .ldAtHlE
  | .h => .ldAtHlH
  | .l => .ldAtHlL
  | .a => .ldAtHlA

/-- The register forms of ADD, SUB, AND, XOR, OR and CP (R192 to R207). -/
def Instr.aluReg : AluOp → Reg8 → Instr
  | .add, .b => .addAB
  | .add, .c => .addAC
  | .add, .d => .addAD
  | .add, .e => .addAE
  | .add, .h => .addAH
  | .add, .l => .addAL
  | .add, .a => .addAA
  | .sub, .b => .subB
  | .sub, .c => .subC
  | .sub, .d => .subD
  | .sub, .e => .subE
  | .sub, .h => .subH
  | .sub, .l => .subL
  | .sub, .a => .subA
  | .and, .b => .andB
  | .and, .c => .andC
  | .and, .d => .andD
  | .and, .e => .andE
  | .and, .h => .andH
  | .and, .l => .andL
  | .and, .a => .andA
  | .xor, .b => .xorB
  | .xor, .c => .xorC
  | .xor, .d => .xorD
  | .xor, .e => .xorE
  | .xor, .h => .xorH
  | .xor, .l => .xorL
  | .xor, .a => .xorA
  | .or, .b => .orB
  | .or, .c => .orC
  | .or, .d => .orD
  | .or, .e => .orE
  | .or, .h => .orH
  | .or, .l => .orL
  | .or, .a => .orA
  | .cp, .b => .cpB
  | .cp, .c => .cpC
  | .cp, .d => .cpD
  | .cp, .e => .cpE
  | .cp, .h => .cpH
  | .cp, .l => .cpL
  | .cp, .a => .cpA

/-- The `(HL)` forms of the same (R193 to R208). -/
def Instr.aluAtHl : AluOp → Instr
  | .add => .addAAtHl
  | .sub => .subAtHl
  | .and => .andAtHl
  | .xor => .xorAtHl
  | .or => .orAtHl
  | .cp => .cpAtHl

/-- The immediate forms of the same (R194 to R209). -/
def Instr.aluImm8 : AluOp → Byte → Instr
  | .add, d8 => .addAD8 d8
  | .sub, d8 => .subD8 d8
  | .and, d8 => .andD8 d8
  | .xor, d8 => .xorD8 d8
  | .or, d8 => .orD8 d8
  | .cp, d8 => .cpD8 d8

/-- `INC r` (R210). -/
def Instr.incReg : Reg8 → Instr
  | .b => .incB
  | .c => .incC
  | .d => .incD
  | .e => .incE
  | .h => .incH
  | .l => .incL
  | .a => .incA

/-- `DEC r` (R212). -/
def Instr.decReg : Reg8 → Instr
  | .b => .decB
  | .c => .decC
  | .d => .decD
  | .e => .decE
  | .h => .decH
  | .l => .decL
  | .a => .decA

/-- `PUSH rr` (R221). -/
def Instr.pushPair : Pair → Instr
  | .bc => .pushBc
  | .de => .pushDe
  | .hl => .pushHl

/-- `POP rr` (R222). -/
def Instr.popPair : Pair → Instr
  | .bc => .popBc
  | .de => .popDe
  | .hl => .popHl

/-- The 98 unimplemented entries of the primary table (R115, R117): each byte with its instruction. -/
def Instr.unimplementedEntries : List (Byte × Instr) :=
  ([(0x00, .unimpl00), (0x02, .unimpl02), (0x03, .unimpl03), (0x07, .unimpl07),
    (0x08, .unimpl08), (0x09, .unimpl09), (0x0A, .unimpl0A), (0x0B, .unimpl0B),
    (0x0F, .unimpl0F), (0x10, .unimpl10), (0x12, .unimpl12), (0x13, .unimpl13),
    (0x17, .unimpl17), (0x18, .unimpl18), (0x19, .unimpl19), (0x1A, .unimpl1A),
    (0x1B, .unimpl1B), (0x1F, .unimpl1F), (0x20, .unimpl20), (0x22, .unimpl22)] : List (Byte × Instr)) ++
  ([(0x23, .unimpl23), (0x27, .unimpl27), (0x28, .unimpl28), (0x29, .unimpl29),
    (0x2A, .unimpl2A), (0x2B, .unimpl2B), (0x2F, .unimpl2F), (0x30, .unimpl30),
    (0x32, .unimpl32), (0x33, .unimpl33), (0x37, .unimpl37), (0x38, .unimpl38),
    (0x39, .unimpl39), (0x3A, .unimpl3A), (0x3B, .unimpl3B), (0x3F, .unimpl3F),
    (0x76, .unimpl76), (0x88, .unimpl88), (0x89, .unimpl89), (0x8A, .unimpl8A)] : List (Byte × Instr)) ++
  ([(0x8B, .unimpl8B), (0x8C, .unimpl8C), (0x8D, .unimpl8D), (0x8E, .unimpl8E),
    (0x8F, .unimpl8F), (0x98, .unimpl98), (0x99, .unimpl99), (0x9A, .unimpl9A),
    (0x9B, .unimpl9B), (0x9C, .unimpl9C), (0x9D, .unimpl9D), (0x9E, .unimpl9E),
    (0x9F, .unimpl9F), (0xC0, .unimplC0), (0xC2, .unimplC2), (0xC3, .unimplC3),
    (0xC4, .unimplC4), (0xC7, .unimplC7), (0xC8, .unimplC8), (0xCA, .unimplCA)] : List (Byte × Instr)) ++
  ([(0xCC, .unimplCC), (0xCE, .unimplCE), (0xCF, .unimplCF), (0xD0, .unimplD0),
    (0xD2, .unimplD2), (0xD3, .unimplD3), (0xD4, .unimplD4), (0xD7, .unimplD7),
    (0xD8, .unimplD8), (0xD9, .unimplD9), (0xDA, .unimplDA), (0xDB, .unimplDB),
    (0xDC, .unimplDC), (0xDD, .unimplDD), (0xDE, .unimplDE), (0xDF, .unimplDF),
    (0xE0, .unimplE0), (0xE2, .unimplE2), (0xE3, .unimplE3), (0xE4, .unimplE4)] : List (Byte × Instr)) ++
  ([(0xE7, .unimplE7), (0xE8, .unimplE8), (0xE9, .unimplE9), (0xEB, .unimplEB),
    (0xEC, .unimplEC), (0xED, .unimplED), (0xEF, .unimplEF), (0xF0, .unimplF0),
    (0xF1, .unimplF1), (0xF2, .unimplF2), (0xF4, .unimplF4), (0xF5, .unimplF5),
    (0xF7, .unimplF7), (0xF9, .unimplF9), (0xFA, .unimplFA), (0xFC, .unimplFC),
    (0xFD, .unimplFD), (0xFF, .unimplFF)] : List (Byte × Instr))

end Sys2Proof
end

