-- ==== Sys2Proof/WellFormed.lean ====
section
/-! DEFINITION. Which instructions are well formed. Every operand but one kind fills its byte: the second opcode byte of
an extended row must be one the row covers (R122: mask 0xFFF8). -/

namespace Sys2Proof

/-- `op2` is one of the eight extended opcodes `8 g .. 8 g + 7` of a row (R122). -/
def coveredBy (g : Nat) (op2 : Byte) : Bool := op2.toNat / 8 == g

/-- The check of every instruction. -/
def Instr.wellFormed : Instr → Bool
  | .unimplCb00To07 op2 => coveredBy 0 op2
  | .unimplCb08To0F op2 => coveredBy 1 op2
  | .unimplCb10To17 op2 => coveredBy 2 op2
  | .unimplCb18To1F op2 => coveredBy 3 op2
  | .unimplCb20To27 op2 => coveredBy 4 op2
  | .unimplCb28To2F op2 => coveredBy 5 op2
  | .unimplCb30To37 op2 => coveredBy 6 op2
  | .unimplCb38To3F op2 => coveredBy 7 op2
  | .unimplCb40To47 op2 => coveredBy 8 op2
  | .unimplCb48To4F op2 => coveredBy 9 op2
  | .unimplCb50To57 op2 => coveredBy 10 op2
  | .unimplCb58To5F op2 => coveredBy 11 op2
  | .unimplCb60To67 op2 => coveredBy 12 op2
  | .unimplCb68To6F op2 => coveredBy 13 op2
  | .unimplCb70To77 op2 => coveredBy 14 op2
  | .unimplCb78To7F op2 => coveredBy 15 op2
  | .unimplCb80To87 op2 => coveredBy 16 op2
  | .unimplCb88To8F op2 => coveredBy 17 op2
  | .unimplCb90To97 op2 => coveredBy 18 op2
  | .unimplCb98To9F op2 => coveredBy 19 op2
  | .unimplCbA0ToA7 op2 => coveredBy 20 op2
  | .unimplCbA8ToAF op2 => coveredBy 21 op2
  | .unimplCbB0ToB7 op2 => coveredBy 22 op2
  | .unimplCbB8ToBF op2 => coveredBy 23 op2
  | .unimplCbC0ToC7 op2 => coveredBy 24 op2
  | .unimplCbC8ToCF op2 => coveredBy 25 op2
  | .unimplCbD0ToD7 op2 => coveredBy 26 op2
  | .unimplCbD8ToDF op2 => coveredBy 27 op2
  | .unimplCbE0ToE7 op2 => coveredBy 28 op2
  | .unimplCbE8ToEF op2 => coveredBy 29 op2
  | .unimplCbF0ToF7 op2 => coveredBy 30 op2
  | .unimplCbF8ToFF op2 => coveredBy 31 op2
  | .unimpl00 => true
  | .ldBcD16 _ _ => true
  | .unimpl02 => true
  | .unimpl03 => true
  | .incB => true
  | .decB => true
  | .ldBD8 _ => true
  | .unimpl07 => true
  | .unimpl08 => true
  | .unimpl09 => true
  | .unimpl0A => true
  | .unimpl0B => true
  | .incC => true
  | .decC => true
  | .ldCD8 _ => true
  | .unimpl0F => true
  | .unimpl10 => true
  | .ldDeD16 _ _ => true
  | .unimpl12 => true
  | .unimpl13 => true
  | .incD => true
  | .decD => true
  | .ldDD8 _ => true
  | .unimpl17 => true
  | .unimpl18 => true
  | .unimpl19 => true
  | .unimpl1A => true
  | .unimpl1B => true
  | .incE => true
  | .decE => true
  | .ldED8 _ => true
  | .unimpl1F => true
  | .unimpl20 => true
  | .ldHlD16 _ _ => true
  | .unimpl22 => true
  | .unimpl23 => true
  | .incH => true
  | .decH => true
  | .ldHD8 _ => true
  | .unimpl27 => true
  | .unimpl28 => true
  | .unimpl29 => true
  | .unimpl2A => true
  | .unimpl2B => true
  | .incL => true
  | .decL => true
  | .ldLD8 _ => true
  | .unimpl2F => true
  | .unimpl30 => true
  | .ldSpD16 _ _ => true
  | .unimpl32 => true
  | .unimpl33 => true
  | .incAtHl => true
  | .decAtHl => true
  | .ldAtHlD8 _ => true
  | .unimpl37 => true
  | .unimpl38 => true
  | .unimpl39 => true
  | .unimpl3A => true
  | .unimpl3B => true
  | .incA => true
  | .decA => true
  | .ldAD8 _ => true
  | .unimpl3F => true
  | .ldBB => true
  | .ldBC => true
  | .ldBD => true
  | .ldBE => true
  | .ldBH => true
  | .ldBL => true
  | .ldBAtHl => true
  | .ldBA => true
  | .ldCB => true
  | .ldCC => true
  | .ldCD => true
  | .ldCE => true
  | .ldCH => true
  | .ldCL => true
  | .ldCAtHl => true
  | .ldCA => true
  | .ldDB => true
  | .ldDC => true
  | .ldDD => true
  | .ldDE => true
  | .ldDH => true
  | .ldDL => true
  | .ldDAtHl => true
  | .ldDA => true
  | .ldEB => true
  | .ldEC => true
  | .ldED => true
  | .ldEE => true
  | .ldEH => true
  | .ldEL => true
  | .ldEAtHl => true
  | .ldEA => true
  | .ldHB => true
  | .ldHC => true
  | .ldHD => true
  | .ldHE => true
  | .ldHH => true
  | .ldHL => true
  | .ldHAtHl => true
  | .ldHA => true
  | .ldLB => true
  | .ldLC => true
  | .ldLD => true
  | .ldLE => true
  | .ldLH => true
  | .ldLL => true
  | .ldLAtHl => true
  | .ldLA => true
  | .ldAtHlB => true
  | .ldAtHlC => true
  | .ldAtHlD => true
  | .ldAtHlE => true
  | .ldAtHlH => true
  | .ldAtHlL => true
  | .unimpl76 => true
  | .ldAtHlA => true
  | .ldAB => true
  | .ldAC => true
  | .ldAD => true
  | .ldAE => true
  | .ldAH => true
  | .ldAL => true
  | .ldAAtHl => true
  | .ldAA => true
  | .addAB => true
  | .addAC => true
  | .addAD => true
  | .addAE => true
  | .addAH => true
  | .addAL => true
  | .addAAtHl => true
  | .addAA => true
  | .unimpl88 => true
  | .unimpl89 => true
  | .unimpl8A => true
  | .unimpl8B => true
  | .unimpl8C => true
  | .unimpl8D => true
  | .unimpl8E => true
  | .unimpl8F => true
  | .subB => true
  | .subC => true
  | .subD => true
  | .subE => true
  | .subH => true
  | .subL => true
  | .subAtHl => true
  | .subA => true
  | .unimpl98 => true
  | .unimpl99 => true
  | .unimpl9A => true
  | .unimpl9B => true
  | .unimpl9C => true
  | .unimpl9D => true
  | .unimpl9E => true
  | .unimpl9F => true
  | .andB => true
  | .andC => true
  | .andD => true
  | .andE => true
  | .andH => true
  | .andL => true
  | .andAtHl => true
  | .andA => true
  | .xorB => true
  | .xorC => true
  | .xorD => true
  | .xorE => true
  | .xorH => true
  | .xorL => true
  | .xorAtHl => true
  | .xorA => true
  | .orB => true
  | .orC => true
  | .orD => true
  | .orE => true
  | .orH => true
  | .orL => true
  | .orAtHl => true
  | .orA => true
  | .cpB => true
  | .cpC => true
  | .cpD => true
  | .cpE => true
  | .cpH => true
  | .cpL => true
  | .cpAtHl => true
  | .cpA => true
  | .unimplC0 => true
  | .popBc => true
  | .unimplC2 => true
  | .unimplC3 => true
  | .unimplC4 => true
  | .pushBc => true
  | .addAD8 _ => true
  | .unimplC7 => true
  | .unimplC8 => true
  | .ret => true
  | .unimplCA => true
  | .prefixByte => true
  | .unimplCC => true
  | .callA16 _ _ => true
  | .unimplCE => true
  | .unimplCF => true
  | .unimplD0 => true
  | .popDe => true
  | .unimplD2 => true
  | .unimplD3 => true
  | .unimplD4 => true
  | .pushDe => true
  | .subD8 _ => true
  | .unimplD7 => true
  | .unimplD8 => true
  | .unimplD9 => true
  | .unimplDA => true
  | .unimplDB => true
  | .unimplDC => true
  | .unimplDD => true
  | .unimplDE => true
  | .unimplDF => true
  | .unimplE0 => true
  | .popHl => true
  | .unimplE2 => true
  | .unimplE3 => true
  | .unimplE4 => true
  | .pushHl => true
  | .andD8 _ => true
  | .unimplE7 => true
  | .unimplE8 => true
  | .unimplE9 => true
  | .ldAtA16A _ _ => true
  | .unimplEB => true
  | .unimplEC => true
  | .unimplED => true
  | .xorD8 _ => true
  | .unimplEF => true
  | .unimplF0 => true
  | .unimplF1 => true
  | .unimplF2 => true
  | .di => true
  | .unimplF4 => true
  | .unimplF5 => true
  | .orD8 _ => true
  | .unimplF7 => true
  | .ldHlSpR8 _ => true
  | .unimplF9 => true
  | .unimplFA => true
  | .ei => true
  | .unimplFC => true
  | .unimplFD => true
  | .cpD8 _ => true
  | .unimplFF => true

end Sys2Proof
end

