-- ==== Sys2Proof/Safety.lean ====
section
/-! DEFINITION. What counts as a safe and as a finished run, the invariant every step keeps, and the further words
claims are stated in: which bytes a state holds, what a fetch leaves, and which pieces of state the rules let an
instruction write. -/

namespace Sys2Proof.Machine

/-! ## Safe and finished -/

/-- A state at which no condition has been raised (R36). -/
abbrev State.Safe (s : State) : Prop := s.fault = none

/-- `finished` (R149): a step boundary at `cfg.STOP_PC` with no condition raised. A faulted state is never final (R9).
DESIGN CHOICE, safe: log entry 15. -/
abbrev State.Finished (s : State) : Prop := s.fault = none ∧ s.cfg.stopPc = some s.pc

/-! ## The invariant -/

/-- What the rules say holds in every state: the low nibble of F is zero (R21), the pending flags are never both set
(R29), T is four times M (R28); and the model's own form of memory: canonical, only cells that exist. -/
abbrev State.Inv (s : State) : Prop :=
  s.f &&& 0x0F = 0 ∧
  ¬(s.pendDi = true ∧ s.pendEi = true) ∧
  s.t = 4 * s.m ∧
  Memory.wf s.mem ∧
  ∀ p ∈ s.mem, s.cfg.ramCell p.1 = true

/-! ## Fetched states -/

/-- From address `a` on the bus holds the bytes of a list as plain bytes, at consecutive addresses that wrap (R110). -/
def State.holds (s : State) (a : Word) : List Byte → Prop
  | [] => True
  | v :: rest => s.lookup a = .byte v ∧ State.holds s (a + 1) rest

/-- A step of this state is a step of the instruction `i`: no condition is latched, and from PC on the bus holds the bytes of `i`
under the state's own `cfg.PREFIX`, which select it (R110, R142). -/
def State.about (s : State) (i : Instr) : Prop :=
  s.fault = none ∧ i.wellFormed = true ∧ i.selectedBy s.cfg.prefixByte = true ∧
    s.holds s.pc (encodeWith s.cfg.prefixByte i)

/-- The state after resolve and the fetch of `n` plain bytes (R141, R142): PC past them, one machine cycle each. -/
def State.fetched (s : State) (n : Nat) : State :=
  { s.resolve with pc := s.pc + BitVec.ofNat 16 n, m := s.m + n, t := s.t + 4 * n }

/-! ## What an instruction may write (R24, R27), read off its opcode byte by the patterns of R111 -/

/-- The register of an operand code (R23); code 6 is none. -/
def regOfCode (k : Nat) : List Reg8 :=
  match k with
  | 0 => [.b]
  | 1 => [.c]
  | 2 => [.d]
  | 3 => [.e]
  | 4 => [.h]
  | 5 => [.l]
  | 6 => []
  | _ => [.a]

/-- The two registers of a pair code (R22, R23); code 3 is none. -/
def regsOfPairCode (k : Nat) : List Reg8 :=
  match k with
  | 0 => [.b, .c]
  | 1 => [.d, .e]
  | 2 => [.h, .l]
  | _ => []

/-- The general registers an opcode byte's instruction writes (R24). -/
def destRegs (op : Byte) : List Reg8 :=
  let n := op.toNat
  let block := n / 64
  let y := n / 8 % 8
  let z := n % 8
  if block = 0 ∧ z = 1 ∧ y % 2 = 0 then regsOfPairCode (y / 2)
  else if block = 0 ∧ (z = 4 ∨ z = 5 ∨ z = 6) then regOfCode y
  else if block = 1 then regOfCode y
  else if block = 2 ∧ (y = 0 ∨ y = 2 ∨ y = 4 ∨ y = 5 ∨ y = 6) then [.a]
  else if block = 3 ∧ z = 6 ∧ (y = 0 ∨ y = 2 ∨ y = 4 ∨ y = 5 ∨ y = 6) then [.a]
  else if n = 0xC1 ∨ n = 0xD1 ∨ n = 0xE1 then regsOfPairCode (y / 2)
  else if n = 0xF8 then [.h, .l]
  else []

/-- Whether an opcode byte's instruction writes the flags (R27): the arithmetic, logical and compare operations, INC,
DEC, and `LD HL,SP+r8`. -/
def writesFlags (op : Byte) : Bool :=
  let n := op.toNat
  let block := n / 64
  let y := n / 8 % 8
  let z := n % 8
  (block == 0 && (z == 4 || z == 5)) || (block == 2 && y != 1 && y != 3) ||
    (block == 3 && z == 6 && y != 1 && y != 3) || n == 0xF8

/-- The addresses an instruction stores to, from the state it starts in (R161, R165, R166, R211, R213, R220, R223). -/
def storeAddresses (i : Instr) (s : State) : List Word :=
  match i with
  | .ldAtHlD8 _ => [s.getPair .hl]
  | .ldAtHlB | .ldAtHlC | .ldAtHlD | .ldAtHlE | .ldAtHlH | .ldAtHlL | .ldAtHlA => [s.getPair .hl]
  | .incAtHl | .decAtHl => [s.getPair .hl]
  | .ldAtA16A b1 b2 => [imm16 s.cfg.imm16Order b1 b2]
  | .pushBc | .pushDe | .pushHl | .callA16 _ _ => [s.sp - 1, s.sp - 2]
  | _ => []

/-- Two addresses show the same byte of work RAM, one of them through the echo window (R70). -/
abbrev echoes (a b : Word) : Prop :=
  (0xC000 ≤ a.toNat ∧ a.toNat ≤ 0xDDFF ∧ b.toNat = a.toNat + 0x2000) ∨
  (0xC000 ≤ b.toNat ∧ b.toNat ≤ 0xDDFF ∧ a.toNat = b.toNat + 0x2000)

/-- The addresses that R61 leaves to the rows of the configuration, high RAM and IE: outside ROM, VRAM, work and echo RAM. -/
abbrev isRegisterRange (a : Word) : Prop :=
  (0xA000 ≤ a.toNat ∧ a.toNat ≤ 0xBFFF) ∨ 0xFE00 ≤ a.toNat

/-- A store to `a` can change what a read of `b` gives: the same address, an echo of it, or the boot-complete register and
an address under the boot image (R63, R70, R73). -/
abbrev touches (cfg : Cfg) (a b : Word) : Prop :=
  b = a ∨ echoes a b ∨ (a = cfg.addrBootOff ∧ isRegisterRange a ∧ b.toNat ≤ 0x00FF)

/-- The data accesses of an instruction that completes, by opcode byte (R306): accesses less the fetches. -/
def dataAccesses (op : Byte) : Nat :=
  let n := op.toNat
  if n = 0x34 ∨ n = 0x35 then 2
  else if n = 0x36 ∨ n = 0xEA then 1
  else if n / 64 = 1 ∧ (n % 8 = 6 ∨ n / 8 % 8 = 6) then 1
  else if n / 64 = 2 ∧ n % 8 = 6 then 1
  else if n = 0xC5 ∨ n = 0xD5 ∨ n = 0xE5 ∨ n = 0xC1 ∨ n = 0xD1 ∨ n = 0xE1 ∨ n = 0xCD ∨ n = 0xC9 then 2
  else 0

/-! ## Results in claims, written out from the rules -/

/-- A condition latched at a state (R274). -/
def State.faulted (s : State) (e : Fault) : State := { s with fault := some e }

/-- `n` machine cycles counted (R7). -/
def State.counted (s : State) (n : Nat) : State := { s with m := s.m + n, t := s.t + 4 * n }

/-- What a byte read of `a` that costs its cycle gives (R62, R146): the byte and the state after it, a fresh draw where the
address reads as a draw; none where it raises. -/
def State.readResult (s : State) (a : Word) : Option (Byte × State) :=
  match s.lookup a with
  | .byte v => some (v, s.counted 1)
  | .draw => some (Config.draw s.draws, State.counted { s with draws := s.draws + 1 } 1)
  | .unmapped => none

/-- The outcome of a byte store that costs its cycle, as the last act of an instruction (R63, R146, R274). -/
def State.storeOutcome (s : State) (a : Word) (v : Byte) : Host.Outcome State Fault Refusal :=
  match s.store a v with
  | some t => .next (t.counted 1)
  | none => .next (s.faulted (.unmappedAddress a .write))

/-- The named byte registers of the configuration that store a byte: IF, LCDC, STAT, SCY, SCX and BGP (R72, R241). -/
abbrev plainRegisters (cfg : Cfg) : List Word :=
  [cfg.addrIf, cfg.addrLcdc, cfg.addrStat, cfg.addrScy, cfg.addrScx, cfg.addrBgp]

/-- The addresses of the APU window (R75). -/
abbrev inApu (cfg : Cfg) (a : Word) : Prop := cfg.apuLo.toNat ≤ a.toNat ∧ a.toNat ≤ cfg.apuHi.toNat

/-- The addresses whose byte keeps what is written and reads it back (R68 to R72, R74, R75): VRAM, work and echo RAM, the plain
registers, the APU window, high RAM and IE, but for an address given to LY or to the boot-complete register. -/
abbrev keepsWrites (cfg : Cfg) (a : Word) : Prop :=
  (0x8000 ≤ a.toNat ∧ a.toNat ≤ 0x9FFF) ∨ (0xC000 ≤ a.toNat ∧ a.toNat ≤ 0xFDFF) ∨
    (isRegisterRange a ∧ a ≠ cfg.addrLy ∧ a ≠ cfg.addrBootOff ∧
      (a ∈ plainRegisters cfg ∨ inApu cfg a ∨ 0xFF80 ≤ a.toNat))

/-- The addresses that answer a write without raising: storage, the low half of ROM, LY and the boot-complete register
(R66, R68 to R75, R250). -/
abbrev takesWrites (cfg : Cfg) (a : Word) : Prop :=
  keepsWrites cfg a ∨ a.toNat ≤ 0x3FFF ∨ (isRegisterRange a ∧ (a = cfg.addrLy ∨ a = cfg.addrBootOff))

/-- The addresses R61 gives no owner (R76): no row of the configuration, and neither high RAM nor IE. -/
abbrev noOwner (cfg : Cfg) (a : Word) : Prop :=
  isRegisterRange a ∧ a ∉ plainRegisters cfg ∧ a ≠ cfg.addrLy ∧ a ≠ cfg.addrBootOff ∧ ¬ inApu cfg a ∧ a.toNat < 0xFF80

/-- The rows of R61 do not overlap ("rows do not overlap at the defaults"): first and last address of each. -/
abbrev rowsApart (cfg : Cfg) : Prop :=
  List.Pairwise (fun p q : Nat × Nat => p.2 < q.1 ∨ q.2 < p.1)
    [(0x0000, 0x7FFF), (0x8000, 0x9FFF), (0xC000, 0xFDFF), (cfg.addrIf.toNat, cfg.addrIf.toNat),
      (cfg.apuLo.toNat, cfg.apuHi.toNat), (cfg.addrLcdc.toNat, cfg.addrLcdc.toNat), (cfg.addrStat.toNat, cfg.addrStat.toNat),
      (cfg.addrScy.toNat, cfg.addrScy.toNat), (cfg.addrScx.toNat, cfg.addrScx.toNat), (cfg.addrLy.toNat, cfg.addrLy.toNat),
      (cfg.addrBgp.toNat, cfg.addrBgp.toNat), (cfg.addrBootOff.toNat, cfg.addrBootOff.toNat), (0xFF80, 0xFFFE),
      (0xFFFF, 0xFFFF)]

/-- An instruction that only stores: its outcome is that of the store, and where the address answers a write it answers a next
state, the store's, one machine cycle later, with no condition raised (R161, R165, R166). -/
def storesTo (i : Instr) (s : State) (a : Word) (v : Byte) : Prop :=
  exec i s = s.storeOutcome a v ∧
  (takesWrites s.cfg a → ∃ t, s.store a v = some t ∧ exec i s = .next (t.counted 1) ∧ t.fault = s.fault)

/-- ADD of `v` to A (R192). -/
def State.added (s : State) (v : Byte) : State :=
  { s with
    a := s.a + v
    f := flagByte (decide (s.a + v = 0)) false (decide (16 ≤ s.a.toNat % 16 + v.toNat % 16))
      (decide (256 ≤ s.a.toNat + v.toNat)) }

/-- CP of A with `v` (R207): H and C by the borrow formulas of the configuration (R8, R191). -/
def State.compared (s : State) (v : Byte) : State :=
  { s with f := flagByte (decide (s.a = v)) true (s.cfg.halfBorrow.eval s.a v) (s.cfg.borrow.eval s.a v) }

/-- SUB of `v` from A (R195). -/
def State.subtracted (s : State) (v : Byte) : State := { s.compared v with a := s.a - v }

/-- A logical result in A (R198, R201, R204): N, H and C are 0. -/
def State.logical (s : State) (v : Byte) : State :=
  { s with a := v, f := flagByte (decide (v = 0)) false false false }

/-- F after INC of a byte `v` (R210). -/
def incFlags (v : Byte) : Byte :=
  flagByte (decide (v = 0xFF)) false (decide (v.toNat % 16 = 15)) (decide (v = 0xFF))

/-- F after DEC of a byte `v` (R212): H and C by the borrow formulas of the configuration (R8, R191). -/
def decFlags (cfg : Cfg) (v : Byte) : Byte :=
  flagByte (decide (v = 0x01)) true (cfg.halfBorrow.eval v 1) (cfg.borrow.eval v 1)

/-- The three forms of a two-operand operation give `result` of the second operand: the register and the immediate form
always, the `(HL)` form where HL can be read; where it cannot, the condition is raised and A and F stay (R192 to R209). -/
def aluFormsGive (op : AluOp) (result : State → Byte → State) : Prop :=
  ∀ s : State,
    (∀ r, exec (Instr.aluReg op r) s = .next (result s (s.getReg r))) ∧
    (∀ d8, exec (Instr.aluImm8 op d8) s = .next (result s d8)) ∧
    (∀ v t, s.readResult (s.getPair .hl) = some (v, t) → exec (Instr.aluAtHl op) s = .next (result t v)) ∧
    (s.readResult (s.getPair .hl) = none →
      exec (Instr.aluAtHl op) s = .next (s.faulted (.unmappedAddress (s.getPair .hl) .read)))

/-- The two forms of INC or DEC: the register form; the `(HL)` form, whose flags are written between the read and the
store, and which completes where HL points at a byte that keeps writes (R210 to R213). -/
def stepFormsGive (onReg : Reg8 → Instr) (onHl : Instr) (value : Byte → Byte) (flags : Cfg → Byte → Byte) : Prop :=
  ∀ s : State,
    (∀ r, exec (onReg r) s = .next { s.setReg r (value (s.getReg r)) with f := flags s.cfg (s.getReg r) }) ∧
    (∀ v t, s.readResult (s.getPair .hl) = some (v, t) →
      exec onHl s = State.storeOutcome { t with f := flags s.cfg v } (s.getPair .hl) (value v)) ∧
    (s.readResult (s.getPair .hl) = none →
      exec onHl s = .next (s.faulted (.unmappedAddress (s.getPair .hl) .read))) ∧
    (∀ v, Memory.wf s.mem → keepsWrites s.cfg (s.getPair .hl) → s.lookup (s.getPair .hl) = .byte v →
      ∃ t, exec onHl s = .next t ∧ t.lookup (s.getPair .hl) = .byte (value v) ∧ t.f = flags s.cfg v ∧ t.m = s.m + 2 ∧
        t.t = s.t + 8 ∧ t.pc = s.pc ∧ t.fault = s.fault)

/-- The second operand of a two-operand instruction, where it has one: the register, the literal, the byte HL reads as. -/
def aluOperand (i : Instr) (op : AluOp) (s : State) (v : Byte) : Prop :=
  (∃ r, i = Instr.aluReg op r ∧ v = s.getReg r) ∨ i = Instr.aluImm8 op v ∨
    (i = Instr.aluAtHl op ∧ ∃ t, s.readResult (s.getPair .hl) = some (v, t))

/-- What pushing a word does (R220, R274): the high byte at SP - 1, then the low byte at SP - 2, SP decremented before each
write; a write that raises ends it with the decrements done so far. `done` is what follows a completed push. -/
def State.pushOutcome (s : State) (v : Word) (done : State → State) : Host.Outcome State Fault Refusal :=
  let s1 := { s with sp := s.sp - 1 }
  match s1.store (s.sp - 1) (hi8 v) with
  | none => .next (s1.faulted (.unmappedAddress (s.sp - 1) .write))
  | some s2 =>
    let s3 := State.counted { s2 with sp := s.sp - 2 } 1
    match s3.store (s.sp - 2) (lo8 v) with
    | none => .next (s3.faulted (.unmappedAddress (s.sp - 2) .write))
    | some s4 => .next (done (s4.counted 1))

/-- What popping a word does (R220, R274): the low byte at SP, then the high byte at SP + 1, SP incremented after each
read; a read that raises ends it with the increments done so far. `done` is what follows a completed pop. -/
def State.popOutcome (s : State) (done : Word → State → State) : Host.Outcome State Fault Refusal :=
  match s.readResult s.sp with
  | none => .next (s.faulted (.unmappedAddress s.sp .read))
  | some (lo, s1) =>
    let s2 := { s1 with sp := s.sp + 1 }
    match s2.readResult (s.sp + 1) with
    | none => .next (s2.faulted (.unmappedAddress (s.sp + 1) .read))
    | some (hi, s3) => .next (done (word hi lo) { s3 with sp := s.sp + 2 })

/-- The addresses of VRAM (R68, R243). -/
abbrev isVram (a : Nat) : Prop := 0x8000 ≤ a ∧ a ≤ 0x9FFF

end Sys2Proof.Machine

namespace Sys2Proof

/-- The four bases of the pixel function at the defaults of R4. -/
abbrev Cfg.defaultBases (cfg : Cfg) : Prop :=
  cfg.mapBase0 = 0x9800 ∧ cfg.mapBase1 = 0x9C00 ∧ cfg.dataBaseU = 0x8000 ∧ cfg.dataBaseS = 0x9000

/-- Two configurations agree on what the pixel function reads: the window, the bases and the bits of LCDC. -/
def Cfg.samePixels (c d : Cfg) : Prop :=
  c.screenW = d.screenW ∧ c.screenH = d.screenH ∧ c.mapBase0 = d.mapBase0 ∧ c.mapBase1 = d.mapBase1 ∧
    c.dataBaseU = d.dataBaseU ∧ c.dataBaseS = d.dataBaseS ∧ c.lcdcMapBit = d.lcdcMapBit ∧ c.lcdcDataBit = d.lcdcDataBit

end Sys2Proof
end

