-- ==== Sys2Proof/Certificates/Slice0/Obligations.lean ====
section
/-! DEFINITION. The statements about CORE, from the numbered rules of the spec. Where a statement rests on a value or a
reading the spec itself marks as its decision, or on a choice of the model, its docstring says so. -/

open Sys2Proof Sys2Proof.Machine

/-! ## Encoding -/

/-- Decoding the bytes of a well-formed instruction gives it back, whatever bytes follow, under every `cfg.PREFIX` whose byte does
not take the instruction's own entry (at the default 0xCB every instruction); the lone prefix byte is the one instruction whose
bytes another instruction's begin with (30_encoding.md, R110, R111, R119, R122). -/
def Obligations.DecodeEncodeRoundTrip : Prop :=
  (∀ (p : Byte) (i : Instr), i.wellFormed = true → i.selectedBy p = true →
    decodeWith p (encodeWith p i) = .ok (i, []) ∧
    (i ≠ .prefixByte → ∀ rest, decodeWith p (encodeWith p i ++ rest) = .ok (i, rest))) ∧
  (∀ i : Instr, i.selectedBy 0xCB = true ∧ encodeWith 0xCB i = encode i ∧ ∀ bytes, decode bytes = decodeWith 0xCB bytes)

/-- What the decoder answers is well formed, and the bytes it consumed are its encoding, under every `cfg.PREFIX`: no two
instructions share bytes, and no bit is ignored (R117, R119, R122). -/
def Obligations.DecodedBytesAreTheEncoding : Prop :=
  ∀ p bytes i rest, decodeWith p bytes = .ok (i, rest) →
    i.wellFormed = true ∧ i.selectedBy p = true ∧ bytes = encodeWith p i ++ rest

/-- The field patterns of the opcode byte (R111, with the operand and pair codes of R23): every row of both tables of
R111, at every value of its fields. -/
def Obligations.OpcodeFieldsSelectTheInstruction : Prop :=
  (∀ p rest b1 b2, decode ((0b00#2 ++ Pair.code p ++ 0b0001#4) :: b1 :: b2 :: rest) =
    .ok (Instr.ldPairImm16 p b1 b2, rest)) ∧
  (∀ rest b1 b2, decode ((0b00#2 ++ 3#2 ++ 0b0001#4) :: b1 :: b2 :: rest) = .ok (.ldSpD16 b1 b2, rest)) ∧
  (∀ r rest, decode ((0b00#2 ++ Reg8.code r ++ 0b100#3) :: rest) = .ok (Instr.incReg r, rest)) ∧
  (∀ rest, decode ((0b00#2 ++ 6#3 ++ 0b100#3) :: rest) = .ok (.incAtHl, rest)) ∧
  (∀ r rest, decode ((0b00#2 ++ Reg8.code r ++ 0b101#3) :: rest) = .ok (Instr.decReg r, rest)) ∧
  (∀ rest, decode ((0b00#2 ++ 6#3 ++ 0b101#3) :: rest) = .ok (.decAtHl, rest)) ∧
  (∀ r d8 rest, decode ((0b00#2 ++ Reg8.code r ++ 0b110#3) :: d8 :: rest) = .ok (Instr.ldRegImm8 r d8, rest)) ∧
  (∀ d8 rest, decode ((0b00#2 ++ 6#3 ++ 0b110#3) :: d8 :: rest) = .ok (.ldAtHlD8 d8, rest)) ∧
  (∀ r r' rest, decode ((0b01#2 ++ Reg8.code r ++ Reg8.code r') :: rest) = .ok (Instr.ldRegReg r r', rest)) ∧
  (∀ r rest, decode ((0b01#2 ++ Reg8.code r ++ 6#3) :: rest) = .ok (Instr.ldRegAtHl r, rest)) ∧
  (∀ s rest, decode ((0b01#2 ++ 6#3 ++ Reg8.code s) :: rest) = .ok (Instr.ldAtHlReg s, rest)) ∧
  (∀ o s rest, decode ((0b10#2 ++ AluOp.code o ++ Reg8.code s) :: rest) = .ok (Instr.aluReg o s, rest)) ∧
  (∀ o rest, decode ((0b10#2 ++ AluOp.code o ++ 6#3) :: rest) = .ok (Instr.aluAtHl o, rest)) ∧
  (∀ o d8 rest, decode ((0b11#2 ++ AluOp.code o ++ 0b110#3) :: d8 :: rest) = .ok (Instr.aluImm8 o d8, rest)) ∧
  (∀ p rest, decode ((0b11#2 ++ Pair.code p ++ 0b0001#4) :: rest) = .ok (Instr.popPair p, rest)) ∧
  (∀ p rest, decode ((0b11#2 ++ Pair.code p ++ 0b0101#4) :: rest) = .ok (Instr.pushPair p, rest)) ∧
  (∀ rest, decode (0b11001001 :: rest) = .ok (.ret, rest)) ∧
  (∀ b1 b2 rest, decode (0b11001101 :: b1 :: b2 :: rest) = .ok (.callA16 b1 b2, rest)) ∧
  (∀ b1 b2 rest, decode (0b11101010 :: b1 :: b2 :: rest) = .ok (.ldAtA16A b1 b2, rest)) ∧
  (∀ rest, decode (0b11110011 :: rest) = .ok (.di, rest)) ∧
  (∀ r8 rest, decode (0b11111000 :: r8 :: rest) = .ok (.ldHlSpR8 r8, rest)) ∧
  (∀ rest, decode (0b11111011 :: rest) = .ok (.ei, rest)) ∧
  decode [0b11001011] = .ok (.prefixByte, []) ∧
  (∀ op2 rest, decode (0b11001011 :: op2 :: rest) = .ok (extendedTable op2, rest))

/-- The words of the worked examples and programs of 95_test_vectors.md decode to the instructions they stand for, one at
least of every family. -/
def Obligations.WorkedWordsDecode : Prop :=
  decode [0x06, 0x42] = .ok (.ldBD8 0x42, []) ∧
  decode [0x36, 0x5A] = .ok (.ldAtHlD8 0x5A, []) ∧
  decode [0x31, 0xDF, 0xFF] = .ok (.ldSpD16 0xDF 0xFF, []) ∧
  decode [0x79] = .ok (.ldAC, []) ∧
  decode [0x66] = .ok (.ldHAtHl, []) ∧
  decode [0x77] = .ok (.ldAtHlA, []) ∧
  decode [0xEA, 0x12, 0x34] = .ok (.ldAtA16A 0x12 0x34, []) ∧
  decode [0xF8, 0x08] = .ok (.ldHlSpR8 0x08, []) ∧
  decode [0x80] = .ok (.addAB, []) ∧
  decode [0x96] = .ok (.subAtHl, []) ∧
  decode [0xE6, 0x38] = .ok (.andD8 0x38, []) ∧
  decode [0xAF] = .ok (.xorA, []) ∧
  decode [0xF6, 0x5A] = .ok (.orD8 0x5A, []) ∧
  decode [0xFE, 0x5B] = .ok (.cpD8 0x5B, []) ∧
  decode [0x34] = .ok (.incAtHl, []) ∧
  decode [0x0D] = .ok (.decC, []) ∧
  decode [0xC5] = .ok (.pushBc, []) ∧
  decode [0xD1] = .ok (.popDe, []) ∧
  decode [0xCD, 0x00, 0x10] = .ok (.callA16 0x00 0x10, []) ∧
  decode [0xC9] = .ok (.ret, []) ∧
  decode [0xF3] = .ok (.di, []) ∧
  decode [0xFB] = .ok (.ei, []) ∧
  decode [0x76] = .ok (.unimpl76, []) ∧
  decode [0xCB, 0x37] = .ok (.unimplCb30To37 0x37, [])

/-- Every opcode byte has an instruction of one to three bytes, and its length is decided by the first byte alone
(30_encoding.md section 1: R110; every entry of the extended table has one length, so the second byte never matters). -/
def Obligations.LengthFollowsFirstByte : Prop :=
  ∀ op : Byte, ∃ n, 1 ≤ n ∧ n ≤ 3 ∧ ∀ b1 b2 rest, ∃ i,
    decode (op :: b1 :: b2 :: rest) = .ok (i, (op :: b1 :: b2 :: rest).drop n) ∧ (encode i).length = n

/-! ## The step -/

/-- A step runs the decoded instruction: where the bytes at PC are those of a well-formed instruction, the step is `exec` of
it at the state after resolve and the fetch of its bytes, PC past them, one machine cycle each (40_dispatch.md section 1:
R140, R141, R142; for the byte `cfg.PREFIX` alone, R143), and then, where nothing was raised, the extra cycles of `cfg.EXTRA_M` that
the meaning does not count itself (section 2: R146; log entry 21): none of them at the default rows, at which the step is `exec` of
the instruction and nothing more. -/
def Obligations.StepRunsDecodedInstruction : Prop :=
  (∀ (s : State) (i : Instr), s.about i →
    step s = endStep i (exec i (s.fetched (encode i).length)) ∧
    (s.cfg.extraM = Params.defaultCfg.extraM → step s = exec i (s.fetched (encode i).length))) ∧
  (∀ (i : Instr) (t : State), t.fault = none → endStep i (.next t) = .next (t.counted (restCycles t.cfg i))) ∧
  (∀ (i : Instr) (t : State), t.fault ≠ none → endStep i (.next t) = .next t)

/-- One byte fetched (R7, R142): at a plain byte PC and the counters advance; at a draw the byte is the draw, whatever it
is; at an address nobody owns the condition is raised, PC is not incremented and no cycle is counted. -/
def Obligations.FetchReadsOneByteAtPc : Prop :=
  ∀ s : State,
    (∀ v, s.lookup s.pc = .byte v → fetch8 s = .ok v { s.counted 1 with pc := s.pc + 1 }) ∧
    (s.lookup s.pc = .draw →
      fetch8 s = .ok (Config.draw s.draws) { s.counted 1 with pc := s.pc + 1, draws := s.draws + 1 }) ∧
    (s.lookup s.pc = .unmapped → fetch8 s = .raise (.unmappedAddress s.pc .read) s)

/-- A fetch that fails ends the step with its condition (R142, R143, R274, R276): after `k` bytes of the instruction were
fetched, PC is past them, they are counted, and nothing else of the instruction has happened. -/
def Obligations.FailedFetchEndsTheStep : Prop :=
  ∀ (s : State) (i : Instr) (k : Nat), s.fault = none → i.wellFormed = true → i.selectedBy s.cfg.prefixByte = true →
    k < (encode i).length → s.holds s.pc ((encodeWith s.cfg.prefixByte i).take k) →
    s.lookup (s.pc + BitVec.ofNat 16 k) = .unmapped →
    step s = .next ((s.fetched k).faulted (.unmappedAddress (s.pc + BitVec.ofNat 16 k) .read))

/-- A step answers a fault exactly where a condition is latched, and answers that condition (60_exceptions.md section 2,
the sticky latch of decision D16; that the raising step itself answers a next state is the model's form, log entry 1). -/
def Obligations.StepFaultsExactlyWhenLatched : Prop :=
  ∀ (s : State) (e : Fault), step s = .fault e ↔ s.fault = some e

/-- No instruction is refused and none stops: `exec` answers a next state for every instruction in every state, and so does
every step with no condition latched (00_scope.md, R9: "There is no fourth outcome"; log entry 1). -/
def Obligations.EveryInstructionAnswersNext : Prop :=
  (∀ (i : Instr) (s : State), ∃ t, exec i s = .next t) ∧
  (∀ s : State, s.fault = none → ∃ t, step s = .next t)

/-- Resolve (R141): it applies the pending flag to IME and clears both, costs no cycle and touches no memory, and runs before
anything else in every step that runs at all (a step from the resolved state is the same step), also in one that raises a
condition; nothing else in the step writes IME. -/
def Obligations.ResolveRunsFirstAndAloneWritesIme : Prop :=
  (∀ s : State, s.resolve =
    { s with
      ime := if s.pendEi = true then true else if s.pendDi = true then false else s.ime
      pendDi := false
      pendEi := false }) ∧
  (∀ s : State, step s = step s.resolve) ∧
  (∀ s t : State, step s = .next t → t.ime = s.resolve.ime)

/-- DI and EI (R226, R227): each sets its pending flag, clears the other and changes nothing else, IME not now; the step that
runs it costs one machine cycle (and what `cfg.EXTRA_M` gives its opcode, at the default nothing) and leaves IME at its resolved
value, and the next step, whatever it runs, leaves IME at 0 after DI and at 1 after EI. -/
def Obligations.TogglesTakeEffectOneStepLater : Prop :=
  Params.defaultCfg.extraCycles 0xF3 = 0 ∧ Params.defaultCfg.extraCycles 0xFB = 0 ∧
  ∀ s : State,
    exec .di s = .next { s with pendDi := true, pendEi := false } ∧
    exec .ei s = .next { s with pendEi := true, pendDi := false } ∧
    (s.about .di →
      let t := State.counted { s.resolve with pc := s.pc + 1, pendDi := true, pendEi := false } (1 + s.cfg.extraCycles 0xF3)
      step s = .next t ∧ ∃ u, step t = .next u ∧ u.ime = false) ∧
    (s.about .ei →
      let t := State.counted { s.resolve with pc := s.pc + 1, pendEi := true, pendDi := false } (1 + s.cfg.extraCycles 0xFB)
      step s = .next t ∧ ∃ u, step t = .next u ∧ u.ime = true)

/-! ## Invariants and whole-machine rules -/

/-- Every step keeps the invariant: the low nibble of F is zero, the pending flags are never both set, T is four times M, and
memory keeps its canonical form and holds only cells that exist (R21, R28, R29; memory's form is the model's). -/
def Obligations.StepKeepsInvariant : Prop :=
  ∀ s t : State, s.Inv → step s = .next t → t.Inv

/-- The invariant holds after reset, of every configuration: whatever `cfg.RESET` and the images are. -/
def Obligations.ResetMeetsInvariant : Prop :=
  State.reset.Inv ∧ ∀ cfg : Cfg, (State.start cfg).Inv

/-- The reset state (10_state.md section 9: M = T = 0 from the source, every other value the spec's decision D14, the overlay
not disabled, no condition latched; the draw counter and the empty image are the model's, log entries 2 and 5): in every
configuration the values of `cfg.RESET`, and at its default zero everywhere. -/
def Obligations.ResetState : Prop :=
  (∀ r, State.reset.getReg r = 0x00) ∧ State.reset.f = 0x00 ∧ State.reset.sp = 0x0000 ∧ State.reset.pc = 0x0000 ∧
  State.reset.ime = false ∧ State.reset.pendDi = false ∧ State.reset.pendEi = false ∧
  (∀ a, keepsWrites Params.defaultCfg a → State.reset.lookup a = .byte 0x00) ∧
  ∀ cfg : Cfg,
    let s := State.start cfg
    let r := cfg.reset
    s.m = 0 ∧ s.t = 0 ∧ s.fault = none ∧ s.bootDone = false ∧ s.cfg = cfg ∧
    s.a = r.a ∧ s.b = r.b ∧ s.c = r.c ∧ s.d = r.d ∧ s.e = r.e ∧ s.h = r.h ∧ s.l = r.l ∧
    s.flagZ = r.z ∧ s.flagN = r.n ∧ s.flagH = r.hc ∧ s.flagC = r.cy ∧ s.f &&& 0x0F = 0 ∧ s.sp = r.sp ∧ s.pc = r.pc ∧
    s.ime = r.ime ∧ (s.pendDi = true ↔ r.pending = some false) ∧ (s.pendEi = true ↔ r.pending = some true) ∧
    (∀ k, cfg.ramCell k = true → Memory.readByte s.mem k = Memory.readByte r.ram k) ∧
    s.ifReg = r.ifReg ∧ s.ieReg = r.ieReg ∧ s.lcdc = r.lcdc ∧ s.stat = r.stat ∧ s.scy = r.scy ∧ s.scx = r.scx ∧ s.bgp = r.bgp

/-- No step writes the configuration, the two ROM images among it (10_state.md section 4, R30: "nothing writes them"). -/
def Obligations.StepNeverWritesTheImages : Prop :=
  ∀ s t : State, step s = .next t → t.cfg = s.cfg

/-- The boot overlay is off for ever (R64, R73): in every run from a state with BOOT_DONE set, however many steps, reads at
0x0000..0x00FF give the cartridge's bytes. -/
def Obligations.OverlayStaysOff : Prop :=
  ∀ (n : Nat) (s t : State) (a : Word), s.bootDone = true → Host.Core.run core n s = .next t → a.toNat ≤ 0x00FF →
    t.bootDone = true ∧ t.lookup a = .byte (Memory.readByte s.cfg.cart a.toNat)

/-- M and T only grow, T by four times as much as M, in every step (10_state.md section 4, R28). -/
def Obligations.CountersGrowTogether : Prop :=
  ∀ s t : State, step s = .next t → s.m ≤ t.m ∧ t.t + 4 * s.m = s.t + 4 * t.m

/-- The cost of an instruction that completes: one cycle for each of its bytes, one for each data access, and the extra cycles
`cfg.EXTRA_M` gives its opcode, T four times that (40_dispatch.md section 2: R146; 70_reset_and_hazards.md section 4, R306). The
extra cycle of 0xF8 is the source's in every configuration; at the defaults PUSH, CALL and RET have one and all others none (the
spec's decision D11). -/
def Obligations.CompletedInstructionCost : Prop :=
  (∀ (s t : State) (i : Instr), s.about i → step s = .next t → t.fault = none →
    t.m = s.m + ((encode i).length + dataAccesses i.opcode + s.cfg.extraCycles i.opcode) ∧
    t.t = s.t + 4 * ((encode i).length + dataAccesses i.opcode + s.cfg.extraCycles i.opcode)) ∧
  (∀ cfg : Cfg, cfg.extraCycles 0xF8 = 1) ∧
  (∀ op : Byte, Params.defaultCfg.extraCycles op =
    if op = 0xF8 ∨ op = 0xC5 ∨ op = 0xD5 ∨ op = 0xE5 ∨ op = 0xCD ∨ op = 0xC9 then 1 else 0)

/-- IME has no effect on execution: a step from a state with another IME is the same step, but for IME itself
(60_exceptions.md section 4, R277, decision D15). -/
def Obligations.ImeNeverInfluencesAStep : Prop :=
  ∀ (s t : State) (x : Bool), step s = .next t →
    step { s with ime := x } = .next { t with ime := (State.resolve { s with ime := x }).ime }

/-- No instruction reads a flag or a counter: a step from a state with another F, M and T differs in nothing but F, M and T
(R27, R28). -/
def Obligations.FlagsAndCountersNeverInfluenceAStep : Prop :=
  ∀ (s t : State) (f : Byte) (m c : Nat), step s = .next t →
    ∃ f' m' c', step { s with f := f, m := m, t := c } = .next { t with f := f', m := m', t := c' }

/-! ## Frames -/

/-- The general registers (R24): an instruction leaves every register but its destination, by the destination field of its
opcode byte. -/
def Obligations.OnlyDestinationRegistersChange : Prop :=
  ∀ (i : Instr) (s t : State), exec i s = .next t → ∀ r, r ∉ destRegs i.opcode → t.getReg r = s.getReg r

/-- The flags (R27): an instruction outside the arithmetic, logical and compare operations, INC, DEC and `LD HL,SP+r8` leaves
F; and those, where no condition is raised, write all of it, whatever F held. -/
def Obligations.OnlyFlagWritersChangeF : Prop :=
  ∀ (i : Instr) (s t : State), exec i s = .next t →
    (writesFlags i.opcode = false → t.f = s.f) ∧
    (writesFlags i.opcode = true → s.fault = none → t.fault = none →
      ∀ x u, exec i { s with f := x } = .next u → u.f = t.f)

/-- The control state: SP changes only in `LD SP,d16`, PUSH, POP, CALL and RET; past the fetch, PC only in CALL, RET and after
the byte 0xCB; a pending flag only in DI and EI; IME and the configuration never (R24, R29). -/
def Obligations.ControlStateFrame : Prop :=
  ∀ (i : Instr) (s t : State), exec i s = .next t →
    (i.opcode ∉ [0x31, 0xC5, 0xD5, 0xE5, 0xC1, 0xD1, 0xE1, 0xCD, 0xC9] → t.sp = s.sp) ∧
    (i.opcode ∉ [0xCD, 0xC9, 0xCB] → t.pc = s.pc) ∧
    (i.opcode ∉ [0xF3, 0xFB] → t.pendDi = s.pendDi ∧ t.pendEi = s.pendEi) ∧
    t.ime = s.ime ∧ t.cfg = s.cfg

/-- Memory (R63, R148): an instruction changes no byte but those at the addresses it stores to, computed as its meaning
computes them: HL, the immediate address, SP - 1 and SP - 2; with an address go its echo and, for the boot-complete register,
the bytes under the overlay. BOOT_DONE changes only with a store to the boot-complete register. One that stores nothing leaves
memory and every byte register behind the bus as they were. -/
def Obligations.OnlyStoredBytesChange : Prop :=
  ∀ (i : Instr) (s t : State), exec i s = .next t →
    (∀ b, (∀ a ∈ storeAddresses i s, ¬ touches s.cfg a b) → t.lookup b = s.lookup b) ∧
    (s.cfg.addrBootOff ∉ storeAddresses i s → t.bootDone = s.bootDone) ∧
    (storeAddresses i s = [] → t.mem = s.mem ∧ t.bootDone = s.bootDone ∧ t.ifReg = s.ifReg ∧ t.ieReg = s.ieReg ∧
      t.lcdc = s.lcdc ∧ t.stat = s.stat ∧ t.scy = s.scy ∧ t.scx = s.scx ∧ t.bgp = s.bgp)

/-! ## The bus -/

/-- Every storage address keeps what is written (20_memory.md section 2: R68, R69, R70, R71, R72, R74, R75): VRAM, work and
echo RAM, IF, the APU block, LCDC, STAT, SCY, SCX, BGP, high RAM and IE, each at its address in the configuration. -/
def Obligations.StorageReadsBackWhatIsWritten : Prop :=
  ∀ (s : State) (a : Word) (v : Byte), Memory.wf s.mem → keepsWrites s.cfg a →
    ∃ t, s.store a v = some t ∧ t.lookup a = .byte v

/-- A store changes nothing beyond its own byte (R63): every address it does not touch reads as before, and the CPU's
registers, counters and control state stay. -/
def Obligations.StoreChangesOnlyItsByte : Prop :=
  ∀ (s t : State) (a : Word) (v : Byte), s.store a v = some t →
    (∀ b, ¬ touches s.cfg a b → t.lookup b = s.lookup b) ∧
    (∀ r, t.getReg r = s.getReg r) ∧ t.f = s.f ∧ t.sp = s.sp ∧ t.pc = s.pc ∧ t.m = s.m ∧ t.t = s.t ∧
    t.ime = s.ime ∧ t.pendDi = s.pendDi ∧ t.pendEi = s.pendEi ∧ t.fault = s.fault ∧ t.cfg = s.cfg

/-- Echo RAM (R70): 0xE000..0xFDFF is work RAM 0xC000..0xDDFF, the same bytes and not a copy, for reads and for writes; a
write through either window is read through the other; 0xDE00..0xDFFF has no echo. -/
def Obligations.EchoWindowIsWorkRam : Prop :=
  (∀ (s : State) (k : Nat) (v : Byte), k < 0x1E00 →
    s.lookup (0xE000 + BitVec.ofNat 16 k) = s.lookup (0xC000 + BitVec.ofNat 16 k) ∧
    s.store (0xE000 + BitVec.ofNat 16 k) v = s.store (0xC000 + BitVec.ofNat 16 k) v ∧
    (Memory.wf s.mem → ∃ t, s.store (0xE000 + BitVec.ofNat 16 k) v = some t ∧
      t.lookup (0xC000 + BitVec.ofNat 16 k) = .byte v ∧ t.lookup (0xE000 + BitVec.ofNat 16 k) = .byte v)) ∧
  (∀ (s t : State) (a : Word) (v : Byte), 0xDE00 ≤ a.toNat → a.toNat ≤ 0xDFFF → s.store a v = some t →
    ∀ b, b ≠ a → t.lookup b = s.lookup b)

/-- Writes to the low half of ROM (R66): nothing changes and nothing is raised, whether or not the boot overlay is visible, and
the write costs its machine cycle. -/
def Obligations.LowRomWritesAreDropped : Prop :=
  ∀ (s : State) (a : Word) (v : Byte), a.toNat ≤ 0x3FFF →
    s.store a v = some s ∧ memWrite a v s = .ok () s ∧ wr8 a v s = .ok () (s.counted 1)

/-- Writes to the high half of ROM (20_memory.md section 2): by the reading the configuration takes, the spec's decision D19, the
condition is raised with nothing changed and no cycle counted, or the write is dropped as in the low half. -/
def Obligations.HighRomWritesRaiseOrAreDropped : Prop :=
  ∀ (s : State) (a : Word) (v : Byte), 0x4000 ≤ a.toNat → a.toNat ≤ 0x7FFF →
    (s.cfg.romHiWrite = .fault → wr8 a v s = .raise (.unmappedAddress a .write) s) ∧
    (s.cfg.romHiWrite = .drop → s.store a v = some s ∧ wr8 a v s = .ok () (s.counted 1))

/-- The boot-complete register (R73, at the address `cfg.ADDR_BOOTOFF`, where the rows of R61 do not overlap): a nonzero write sets
BOOT_DONE and after it the first 256 addresses read as the cartridge; a zero write changes nothing; no write to any address clears
BOOT_DONE; a read is a draw and raises nothing. -/
def Obligations.BootCompleteRegister : Prop :=
  ∀ s : State, rowsApart s.cfg →
    (∀ v, v ≠ 0x00 → s.store s.cfg.addrBootOff v = some { s with bootDone := true }) ∧
    s.store s.cfg.addrBootOff 0x00 = some s ∧
    (∀ v t, v ≠ 0x00 → s.store s.cfg.addrBootOff v = some t → ∀ a : Word, a.toNat ≤ 0x00FF →
      t.lookup a = .byte (Memory.readByte s.cfg.cart a.toNat)) ∧
    (∀ a v t, s.bootDone = true → s.store a v = some t → t.bootDone = true) ∧
    memRead s.cfg.addrBootOff s = .ok (Config.draw s.draws) { s with draws := s.draws + 1 }

/-- LY (R250, at the address `cfg.ADDR_LY`, where the rows of R61 do not overlap): a read is a draw, the next of a sequence nothing
constrains, and changes nothing else; a write is dropped and raises nothing. -/
def Obligations.LyReadsADrawAndDropsWrites : Prop :=
  ∀ (s : State) (v : Byte), rowsApart s.cfg →
    memRead s.cfg.addrLy s = .ok (Config.draw s.draws) { s with draws := s.draws + 1 } ∧ s.store s.cfg.addrLy v = some s

/-- Reads of 0x0000..0x7FFF (R64, R65): the boot image over the first 256 addresses where it is present and BOOT_DONE is 0;
the cartridge image everywhere else. -/
def Obligations.RomReadsFollowTheOverlay : Prop :=
  ∀ (s : State) (a : Word), a.toNat ≤ 0x7FFF →
    (∀ image, s.cfg.boot = some image → s.bootDone = false → a.toNat ≤ 0x00FF →
      s.lookup a = .byte (Memory.readByte image a.toNat)) ∧
    (s.cfg.boot = none ∨ s.bootDone = true ∨ 0x00FF < a.toNat →
      s.lookup a = .byte (Memory.readByte s.cfg.cart a.toNat))

/-- The addresses without an owner are exactly those no row of R61 holds (R76, the spec's decision D18), at the default addresses
(decision D17) those 20_memory.md lists: they and no others raise on a read; on a write they and, in the faulting reading, the high
half of ROM. -/
def Obligations.UnownedAddressesRaise : Prop :=
  (∀ (s : State) (a : Word), memRead a s = .raise (.unmappedAddress a .read) s ↔ noOwner s.cfg a) ∧
  (∀ (s : State) (a : Word) (v : Byte), memWrite a v s = .raise (.unmappedAddress a .write) s ↔
    (noOwner s.cfg a ∨ (0x4000 ≤ a.toNat ∧ a.toNat ≤ 0x7FFF ∧ s.cfg.romHiWrite = .fault))) ∧
  (∀ a : Word, noOwner Params.defaultCfg a ↔
    (0xA000 ≤ a.toNat ∧ a.toNat ≤ 0xBFFF) ∨ (0xFE00 ≤ a.toNat ∧ a.toNat ≤ 0xFF0E) ∨
      (0xFF45 ≤ a.toNat ∧ a.toNat ≤ 0xFF46) ∨ (0xFF48 ≤ a.toNat ∧ a.toNat ≤ 0xFF4F) ∨
      (0xFF51 ≤ a.toNat ∧ a.toNat ≤ 0xFF7F))

/-- A read changes no state of CORE (R62): it gives what the address reads as, and at most the model's own count of draws
advances; where it raises, the state is as it was. -/
def Obligations.ReadsChangeNothing : Prop :=
  ∀ (s : State) (a : Word),
    (∀ v, s.lookup a = .byte v → memRead a s = .ok v s) ∧
    (s.lookup a = .draw → memRead a s = .ok (Config.draw s.draws) { s with draws := s.draws + 1 }) ∧
    (s.lookup a = .unmapped → memRead a s = .raise (.unmappedAddress a .read) s)

/-- The images of a launch are what the bus reads (R64, R65, R301), whatever the rest of the configuration: with a cartridge of
32768 bytes and no boot image, address `a` of ROM reads as byte `a` of the cartridge; with a boot image of 256 bytes as well,
0x0000..0x00FF read as its bytes and the rest of ROM as the cartridge, until BOOT_DONE is set, from when all of ROM reads as the
cartridge; the launched state has the invariant; an image of another size is refused (decision D21). -/
def Obligations.LaunchedImageIsRead : Prop :=
  (∀ (cfg : Cfg) (cart : List Byte) (h : cart.length = 32768), ∃ s, launch cfg cart none = some s ∧ s.Inv ∧
    ∀ (a : Word) (ha : a.toNat < 32768), s.lookup a = .byte (cart[a.toNat]'(h ▸ ha))) ∧
  (∀ (cfg : Cfg) (cart boot : List Byte) (h : cart.length = 32768) (hb : boot.length = 256),
    ∃ s, launch cfg cart (some boot) = some s ∧ s.Inv ∧ s.bootDone = false ∧
      (∀ (a : Word) (ha : a.toNat < 256), s.lookup a = .byte (boot[a.toNat]'(hb ▸ ha))) ∧
      (∀ (a : Word) (ha : a.toNat < 32768), 256 ≤ a.toNat → s.lookup a = .byte (cart[a.toNat]'(h ▸ ha))) ∧
      (∀ (a : Word) (ha : a.toNat < 32768),
        State.lookup { s with bootDone := true } a = .byte (cart[a.toNat]'(h ▸ ha)))) ∧
  (∀ cfg cart boot, cart.length ≠ 32768 → launch cfg cart boot = none) ∧
  (∀ cfg cart boot, boot.length ≠ 256 → launch cfg cart (some boot) = none)

/-! ## Loads and stores -/

/-- The register pairs are views of their two registers (R22): the high register first, a pair written in both halves, and a
write to the low register changing the pair. -/
def Obligations.PairsAreViewsOfRegisters : Prop :=
  (∀ s : State, (s.getPair .bc).toNat = s.b.toNat * 256 + s.c.toNat ∧
    (s.getPair .de).toNat = s.d.toNat * 256 + s.e.toNat ∧ (s.getPair .hl).toNat = s.h.toNat * 256 + s.l.toNat) ∧
  (∀ (s : State) (v : Word),
    (s.setPair .bc v).b.toNat = v.toNat / 256 ∧ (s.setPair .bc v).c.toNat = v.toNat % 256 ∧
    (s.setPair .de v).d.toNat = v.toNat / 256 ∧ (s.setPair .de v).e.toNat = v.toNat % 256 ∧
    (s.setPair .hl v).h.toNat = v.toNat / 256 ∧ (s.setPair .hl v).l.toNat = v.toNat % 256) ∧
  (∀ (s : State) (p : Pair) (v : Word), (s.setPair p v).getPair p = v) ∧
  (∀ (s : State) (v : Byte), (s.setReg .c v).getPair .bc = word s.b v)

/-- `LD r,d8` (R160): the register holds the literal and nothing else changes; in a step, from its two bytes at PC, PC is past
both and M, T have grown by 2 and 8 (and by what `cfg.EXTRA_M` gives the opcode, at the default nothing); an immediate that cannot
be fetched leaves the register. -/
def Obligations.LoadImmediateByte : Prop :=
  ∀ (r : Reg8) (d8 : Byte) (s : State),
    let op : Byte := 0b00#2 ++ r.code ++ 0b110#3
    Params.defaultCfg.extraCycles op = 0 ∧
    exec (Instr.ldRegImm8 r d8) s = .next (s.setReg r d8) ∧
    (s.fault = none → s.cfg.prefixByte ≠ op → s.holds s.pc [op, d8] →
      step s = .next (State.counted { s.resolve.setReg r d8 with pc := s.pc + 2 } (2 + s.cfg.extraCycles op))) ∧
    (s.fault = none → s.cfg.prefixByte ≠ op → s.lookup s.pc = .byte op → s.lookup (s.pc + 1) = .unmapped →
      step s = .next { s.resolve with
        pc := s.pc + 1
        m := s.m + 1
        t := s.t + 4
        fault := some (.unmappedAddress (s.pc + 1) .read) })

/-- `LD rr,d16` (R162, R113): the pair, or SP, becomes the 16-bit immediate, whose first byte is the high one or the low one
by `cfg.IMM16_ORDER` (decision D4). -/
def Obligations.LoadImmediateWord : Prop :=
  ∀ (b1 b2 : Byte) (s : State),
    (s.cfg.imm16Order = .highFirst →
      (∀ p, exec (Instr.ldPairImm16 p b1 b2) s = .next (s.setPair p (word b1 b2))) ∧
      exec (.ldSpD16 b1 b2) s = .next { s with sp := word b1 b2 }) ∧
    (s.cfg.imm16Order = .lowFirst →
      (∀ p, exec (Instr.ldPairImm16 p b1 b2) s = .next (s.setPair p (word b2 b1))) ∧
      exec (.ldSpD16 b1 b2) s = .next { s with sp := word b2 b1 })

/-- `LD r,r'` (R163): the 49 register moves; the same register twice changes nothing. -/
def Obligations.LoadRegister : Prop :=
  (∀ (r r' : Reg8) (s : State), exec (Instr.ldRegReg r r') s = .next (s.setReg r (s.getReg r'))) ∧
  (∀ (r : Reg8) (s : State), exec (Instr.ldRegReg r r) s = .next s)

/-- `LD r,(HL)` (R164): the byte read at HL, the address formed before the register is written; where the read raises, the
register is unchanged. -/
def Obligations.LoadFromHl : Prop :=
  ∀ (r : Reg8) (s : State),
    (∀ v t, s.readResult (s.getPair .hl) = some (v, t) → exec (Instr.ldRegAtHl r) s = .next (t.setReg r v)) ∧
    (s.readResult (s.getPair .hl) = none →
      exec (Instr.ldRegAtHl r) s = .next (s.faulted (.unmappedAddress (s.getPair .hl) .read)))

/-- `LD (HL),r`, `LD (HL),d8` and `LD (a16),A` (R161, R165, R166; the order of the address bytes is `cfg.IMM16_ORDER`): the
byte stored at HL or at the immediate address and one machine cycle, or the condition with nothing changed; and they complete,
with no condition raised, wherever the target is storage, the low half of ROM, LY or the boot-complete register. -/
def Obligations.StoreInstructions : Prop :=
  ∀ s : State,
    (∀ r, storesTo (Instr.ldAtHlReg r) s (s.getPair .hl) (s.getReg r)) ∧
    (∀ d8, storesTo (.ldAtHlD8 d8) s (s.getPair .hl) d8) ∧
    (∀ b1 b2, s.cfg.imm16Order = .highFirst → storesTo (.ldAtA16A b1 b2) s (word b1 b2) s.a) ∧
    (∀ b1 b2, s.cfg.imm16Order = .lowFirst → storesTo (.ldAtA16A b1 b2) s (word b2 b1) s.a)

/-- `LD HL,SP+r8` (41_loads.md section 5, R167, decision D10): HL is SP plus the sign-extended byte, Z and N are 0, H and C are
the add formulas on SP's low byte, one extra cycle is counted, and SP stays. -/
def Obligations.LoadHlFromSpOffset : Prop :=
  ∀ (r8 : Byte) (s : State),
    exec (.ldHlSpR8 r8) s =
      .next { s.setPair .hl (s.sp + BitVec.ofNat 16 (if r8.toNat < 128 then r8.toNat else r8.toNat + 0xFF00)) with
        f := flagByte false false (decide (16 ≤ s.sp.toNat % 16 + r8.toNat % 16))
          (decide (256 ≤ s.sp.toNat % 256 + r8.toNat))
        m := s.m + 1
        t := s.t + 4 }

/-! ## Arithmetic -/

/-- ADD (42_alu.md section 2, R192 to R194; A as operand and destination is decision D9): A plus the operand, modulo 256, with
Z, H and C of the sum and N clear. -/
def Obligations.AddResult : Prop :=
  aluFormsGive .add State.added

/-- SUB and CP (42_alu.md section 3, R195 to R197 and R207 to R209): the difference and its flags, N set, H and C by the borrow
formulas of the configuration; CP writes the flags alone; and the formulas of decisions D5 and D6, the defaults, as numbers. -/
def Obligations.SubtractAndCompareResult : Prop :=
  aluFormsGive .sub State.subtracted ∧ aluFormsGive .cp State.compared ∧
  (∀ a b : Byte, Params.defaultCfg.halfBorrow.eval a b = decide (16 ≤ a.toNat % 16 + b.toNat % 16) ∧
    Params.defaultCfg.borrow.eval a b = decide (a.toNat < b.toNat))

/-- AND, XOR and OR (42_alu.md section 4, R198 to R206; H and C are 0 by decision D8): the bitwise result in A, Z of it. -/
def Obligations.LogicalResult : Prop :=
  aluFormsGive .and (fun s v => s.logical (s.a &&& v)) ∧
  aluFormsGive .xor (fun s v => s.logical (s.a ^^^ v)) ∧
  aluFormsGive .or (fun s v => s.logical (s.a ||| v))

/-- INC (42_alu.md section 5, R210, R211; C is written by decision D7): the operand plus one modulo 256, all four flags; in the
memory form the flags are written before the store. -/
def Obligations.IncrementResult : Prop :=
  stepFormsGive Instr.incReg .incAtHl (fun v => v + 1) (fun _ v => incFlags v)

/-- DEC (42_alu.md section 5, R212, R213; H and C by the borrow formulas of the configuration): the operand minus one modulo 256, all
four flags; at the defaults (decisions D5 and D6) H is set from a low nibble of 15 and C from 0x00; and the source's two data points,
the half-carry set from 0x0F and clear from 0x0E, in every configuration whose formula meets what section 1 requires of it, which the
default does. -/
def Obligations.DecrementResult : Prop :=
  stepFormsGive Instr.decReg .decAtHl (fun v => v - 1) decFlags ∧
  (∀ v, decFlags Params.defaultCfg v =
    flagByte (decide (v = 0x01)) true (decide (v.toNat % 16 = 15)) (decide (v = 0x00))) ∧
  (∀ cfg : Cfg, cfg.halfBorrow.eval 0x0F 1 = true → cfg.halfBorrow.eval 0x0E 1 = false →
    (decFlags cfg 0x0F).getLsbD 5 = true ∧ (decFlags cfg 0x0E).getLsbD 5 = false) ∧
  Params.defaultCfg.halfBorrow.eval 0x0F 1 = true ∧ Params.defaultCfg.halfBorrow.eval 0x0E 1 = false

/-- Laws of the arithmetic (42_alu.md section 6, R214), for every operand form. ADD then SUB of the same operand restores A: an
immediate, a register other than A (which ADD A,A has changed), the byte at HL. INC then DEC restores the register, or the byte at HL
where storage keeps it. CP, whatever its operand, leaves every register but F, SP, PC and all that is behind the bus. Z is that of the
8-bit result, and N is set in SUB, CP and DEC alone. -/
def Obligations.ArithmeticLaws : Prop :=
  (∀ (s : State) (d8 : Byte), ∃ t u, exec (.addAD8 d8) s = .next t ∧ exec (.subD8 d8) t = .next u ∧ u.a = s.a) ∧
  (∀ (s : State) (r : Reg8), r ≠ .a →
    ∃ t u, exec (Instr.aluReg .add r) s = .next t ∧ exec (Instr.aluReg .sub r) t = .next u ∧ u.a = s.a) ∧
  (∀ (s : State) (v : Byte), s.lookup (s.getPair .hl) = .byte v →
    ∃ t u, exec .addAAtHl s = .next t ∧ exec .subAtHl t = .next u ∧ u.a = s.a) ∧
  (∀ (s : State) (r : Reg8),
    ∃ t u, exec (Instr.incReg r) s = .next t ∧ exec (Instr.decReg r) t = .next u ∧ u.getReg r = s.getReg r) ∧
  (∀ (s : State) (v : Byte), Memory.wf s.mem → keepsWrites s.cfg (s.getPair .hl) → s.lookup (s.getPair .hl) = .byte v →
    ∃ t u, exec .incAtHl s = .next t ∧ exec .decAtHl t = .next u ∧ u.lookup (s.getPair .hl) = .byte v) ∧
  (∀ (s : State) (i : Instr) (v : Byte), aluOperand i .cp s v →
    ∃ t, exec i s = .next t ∧ t = { s with f := t.f, m := t.m, t := t.t, draws := t.draws }) ∧
  (∀ (s : State) (i : Instr) (op : AluOp) (v : Byte), aluOperand i op s v →
    ∃ t, exec i s = .next t ∧ t.flagN = decide (op = .sub ∨ op = .cp) ∧
      t.flagZ = (if op = .cp then decide (s.a - v = 0) else decide (t.a = 0))) ∧
  (∀ (s : State) (r : Reg8), ∃ t, exec (Instr.incReg r) s = .next t ∧
    t.flagN = false ∧ t.flagZ = decide (t.getReg r = 0)) ∧
  (∀ (s : State) (r : Reg8), ∃ t, exec (Instr.decReg r) s = .next t ∧
    t.flagN = true ∧ t.flagZ = decide (t.getReg r = 0)) ∧
  (∀ (s u : State) (v : Byte), s.readResult (s.getPair .hl) = some (v, u) →
    (∃ t, exec .incAtHl s = .next t ∧ t.flagN = false ∧ t.flagZ = decide (v + 1 = 0)) ∧
    (∃ t, exec .decAtHl s = .next t ∧ t.flagN = true ∧ t.flagZ = decide (v - 1 = 0)))

/-! ## Stack, call and return -/

/-- PUSH (43_stack_control.md section 1, R220, R221; the extra cycle is `cfg.EXTRA_M` of the opcode, at the default one: decision
D11): the extra cycle, then the two writes of the stack primitive, in every case of their outcome. -/
def Obligations.PushResult : Prop :=
  ∀ (p : Pair) (s : State),
    exec (Instr.pushPair p) s =
      (s.counted (s.cfg.extraCycles (0b11#2 ++ p.code ++ 0b0101#4))).pushOutcome (s.getPair p) id ∧
    Params.defaultCfg.extraCycles (0b11#2 ++ p.code ++ 0b0101#4) = 1

/-- POP (43_stack_control.md section 1, R220, R222): the two reads of the stack primitive; the pair is written only after
both, and from two plain bytes the instruction completes. -/
def Obligations.PopResult : Prop :=
  ∀ (p : Pair) (s : State),
    (exec (Instr.popPair p) s = s.popOutcome fun v t => t.setPair p v) ∧
    (∀ lo hi, s.lookup s.sp = .byte lo → s.lookup (s.sp + 1) = .byte hi →
      exec (Instr.popPair p) s = .next { s.setPair p (word hi lo) with sp := s.sp + 2, m := s.m + 2, t := s.t + 8 })

/-- CALL (43_stack_control.md section 2, R223): the extra cycle (`cfg.EXTRA_M` of the opcode, at the default one: decision D11), the
return PC pushed, then PC at the target, whose bytes are ordered by `cfg.IMM16_ORDER` (decision D4); where a write raises, PC is
still the return address; with both stack bytes in storage it completes. -/
def Obligations.CallResult : Prop :=
  Params.defaultCfg.extraCycles 0xCD = 1 ∧
  ∀ (b1 b2 : Byte) (s : State),
    (s.cfg.imm16Order = .highFirst →
      exec (.callA16 b1 b2) s =
        (s.counted (s.cfg.extraCycles 0xCD)).pushOutcome s.pc fun t => { t with pc := word b1 b2 }) ∧
    (s.cfg.imm16Order = .lowFirst →
      exec (.callA16 b1 b2) s =
        (s.counted (s.cfg.extraCycles 0xCD)).pushOutcome s.pc fun t => { t with pc := word b2 b1 }) ∧
    (Memory.wf s.mem → keepsWrites s.cfg (s.sp - 1) → keepsWrites s.cfg (s.sp - 2) →
      ∃ t, exec (.callA16 b1 b2) s = .next t ∧ (s.cfg.imm16Order = .highFirst → t.pc = word b1 b2) ∧
        (s.cfg.imm16Order = .lowFirst → t.pc = word b2 b1) ∧ t.sp = s.sp - 2 ∧
        t.lookup (s.sp - 1) = .byte (hi8 s.pc) ∧ t.lookup (s.sp - 2) = .byte (lo8 s.pc) ∧
        t.m = s.m + (s.cfg.extraCycles 0xCD + 2) ∧ t.fault = s.fault)

/-- RET (43_stack_control.md section 2, R224): PC becomes the popped word, the extra cycle counted (`cfg.EXTRA_M` of the opcode, at
the default one: decision D11); from two plain bytes the instruction completes. -/
def Obligations.ReturnResult : Prop :=
  Params.defaultCfg.extraCycles 0xC9 = 1 ∧
  ∀ s : State,
    (exec .ret s = s.popOutcome fun v t => { t.counted (s.cfg.extraCycles 0xC9) with pc := v }) ∧
    (∀ lo hi, s.lookup s.sp = .byte lo → s.lookup (s.sp + 1) = .byte hi →
      exec .ret s = .next (State.counted { s with pc := word hi lo, sp := s.sp + 2 } (2 + s.cfg.extraCycles 0xC9)))

/-- Push then pop of the same pair restores its value and SP, wherever both stack bytes keep what is written
(43_stack_control.md section 1, R222); both instructions complete. -/
def Obligations.PushThenPopRestores : Prop :=
  ∀ (p : Pair) (s : State), Memory.wf s.mem → keepsWrites s.cfg (s.sp - 1) → keepsWrites s.cfg (s.sp - 2) →
    ∃ t u, exec (Instr.pushPair p) s = .next t ∧ exec (Instr.popPair p) t = .next u ∧ t.sp = s.sp - 2 ∧
      t.lookup (s.sp - 1) = .byte (hi8 (s.getPair p)) ∧ t.lookup (s.sp - 2) = .byte (lo8 (s.getPair p)) ∧
      u.getPair p = s.getPair p ∧ u.sp = s.sp ∧ t.fault = s.fault ∧ u.fault = s.fault ∧
      u.m = s.m + (s.cfg.extraCycles (Instr.pushPair p).opcode + 4)

/-- Call then return (43_stack_control.md section 2, R225), in either byte order of the immediate (decision D4): from the three bytes
of a CALL at PC, with both stack bytes in storage, the step reaches the target, and if a RET stands there the next step is back at the
instruction following the call with SP as before it. The two steps cost the eight accesses and what `cfg.EXTRA_M` gives the two
opcodes, at the defaults of decision D11 ten machine cycles together. -/
def Obligations.CallThenReturnRestores : Prop :=
  ∀ (s : State) (b1 b2 : Byte), s.about (.callA16 b1 b2) → s.cfg.prefixByte ≠ 0xC9 → Memory.wf s.mem →
    keepsWrites s.cfg (s.sp - 1) → keepsWrites s.cfg (s.sp - 2) →
    ∃ t, step s = .next t ∧ t.fault = none ∧ t.sp = s.sp - 2 ∧ (s.cfg.imm16Order = .highFirst → t.pc = word b1 b2) ∧
      (s.cfg.imm16Order = .lowFirst → t.pc = word b2 b1) ∧
      (t.lookup t.pc = .byte 0xC9 →
        ∃ u, step t = .next u ∧ u.fault = none ∧ u.pc = s.pc + 3 ∧ u.sp = s.sp ∧
          u.m = s.m + (8 + s.cfg.extraCycles 0xCD + s.cfg.extraCycles 0xC9) ∧
          (s.cfg.extraM = Params.defaultCfg.extraM → u.m = s.m + 10))

/-! ## Unimplemented entries -/

/-- The 98 unimplemented primary entries (R144, R117): each raises its condition with its opcode byte, nothing else changed; in
a step PC is past the one byte and one fetch is counted. The same of the byte 0xCB where it is not `cfg.PREFIX`, since no admitted
entry stands there then (section 1 with decision D2; log entry 19). -/
def Obligations.UnimplementedPrimaryEntriesRaise : Prop :=
  Instr.unimplementedEntries.length = 98 ∧
  (∀ p ∈ Instr.unimplementedEntries, ∀ s : State, exec p.2 s = .next (s.faulted (.unimplementedOpcode p.1))) ∧
  (∀ (s : State) (op : Byte), (op = 0xCB ∨ ∃ p ∈ Instr.unimplementedEntries, op = p.1) → s.cfg.prefixByte ≠ op →
    s.fault = none → s.lookup s.pc = .byte op →
      step s = .next { s.resolve with
        pc := s.pc + 1
        m := s.m + 1
        t := s.t + 4
        fault := some (.unimplementedOpcode op) })

/-- The 256 unimplemented extended entries (R143, R145): every instruction of the extended table raises its condition with
`cfg.PREFIX` and its second byte; in a step, from `cfg.PREFIX` and any second byte, PC is past both bytes and two fetches are
counted. The byte `cfg.PREFIX` itself fetches the second opcode byte and raises the condition of its entry, or that of the failed
fetch. At the default `cfg.PREFIX` is 0xCB (decision D2). -/
def Obligations.UnimplementedExtendedEntriesRaise : Prop :=
  Params.defaultCfg.prefixByte = 0xCB ∧
  (∀ (i : Instr) (op2 : Byte) (s : State), encode i = [0xCB, op2] →
    exec i s = .next (s.faulted (.unimplementedExtendedOpcode s.cfg.prefixByte op2))) ∧
  (∀ (op2 : Byte) (s : State), s.fault = none → s.holds s.pc [s.cfg.prefixByte, op2] →
    step s = .next { s.resolve with
      pc := s.pc + 2
      m := s.m + 2
      t := s.t + 8
      fault := some (.unimplementedExtendedOpcode s.cfg.prefixByte op2) }) ∧
  (∀ (s t : State) (op2 : Byte), s.readResult s.pc = some (op2, t) →
    exec .prefixByte s =
      .next (State.faulted { t with pc := s.pc + 1 } (.unimplementedExtendedOpcode s.cfg.prefixByte op2))) ∧
  (∀ s : State, s.readResult s.pc = none → exec .prefixByte s = .next (s.faulted (.unmappedAddress s.pc .read)))

/-! ## The pixel function -/

/-- The pixel function (R244): its parts as numbers (R245, R248, R249), the scrolled coordinates, the colour index of a column, 0
leftmost, of a row of a tile, the shade of a palette slot; and their composition: in the window a pixel is the palette's shade of the
colour index, at row `ey % 8` and column `ex % 8`, of the tile whose index is the byte at the map cell of the scrolled coordinates
`ex`, `ey`, wherever the bytes it reads lie in VRAM, which they do at the default bases (the spec's decision D23; layout by decisions
D24 and D25); where they do not, or outside the window, there is none (decision D28; log entries 14 and 22). -/
def Obligations.PixelParts : Prop :=
  ∀ s : State,
    (∀ x y, s.scroll x y = ((x + s.scx.toNat) % 256, (y + s.scy.toNat) % 256)) ∧
    (∀ t k c, c < 8 → (s.rowDecode t k c).toNat =
      2 * ((Memory.readByte s.mem (t + 2 * k + 1)).toNat / 2 ^ (7 - c) % 2) +
        (Memory.readByte s.mem (t + 2 * k)).toNat / 2 ^ (7 - c) % 2) ∧
    (∀ ci : BitVec 2, (s.palette ci).toNat = s.bgp.toNat / 4 ^ ci.toNat % 4) ∧
    (∀ x y, x < s.cfg.screenW → y < s.cfg.screenH →
      let ex := (s.scroll x y).1
      let ey := (s.scroll x y).2
      let cell := s.mapAddress ex ey
      let tile := s.tileAddress (Memory.readByte s.mem cell)
      let shade := s.palette (s.rowDecode tile (ey % 8) (ex % 8))
      (s.cfg.defaultBases → s.pixel x y = some shade) ∧
      (isVram cell → isVram (tile + 2 * (ey % 8)) → isVram (tile + 2 * (ey % 8) + 1) → s.pixel x y = some shade) ∧
      (¬ (isVram cell ∧ isVram (tile + 2 * (ey % 8)) ∧ isVram (tile + 2 * (ey % 8) + 1)) → s.pixel x y = none)) ∧
    (∀ x y, ¬ (x < s.cfg.screenW ∧ y < s.cfg.screenH) → s.pixel x y = none)

/-- The addresses the pixel function reads (45_ppu_decode.md, R243, R246, R247; bases and bits are the spec's decision D23): the
map cell in one of the two maps, by the bit `cfg.LCDC_MAP_BIT` of LCDC, bit 3 at the default; the tile by the unsigned or the signed
index, by the bit `cfg.LCDC_DATA_BIT`, bit 4 at the default; and at the default bases all of them in VRAM. -/
def Obligations.PixelAddressesLieInVram : Prop :=
  Params.defaultCfg.lcdcMapBit = 3 ∧ Params.defaultCfg.lcdcDataBit = 4 ∧ Params.defaultCfg.defaultBases ∧
  ∀ s : State,
    (∀ ex ey, s.mapAddress ex ey =
      (if s.lcdc.getLsbD s.cfg.lcdcMapBit = true then s.cfg.mapBase1.toNat else s.cfg.mapBase0.toNat) +
        (ey / 8 * 32 + ex / 8)) ∧
    (∀ idx : Byte, s.lcdc.getLsbD s.cfg.lcdcDataBit = true → s.tileAddress idx = s.cfg.dataBaseU.toNat + 16 * idx.toNat) ∧
    (∀ idx : Byte, s.lcdc.getLsbD s.cfg.lcdcDataBit = false →
      s.tileAddress idx = (if idx.toNat < 128 then s.cfg.dataBaseS.toNat + 16 * idx.toNat
        else s.cfg.dataBaseS.toNat + 16 * idx.toNat - 4096)) ∧
    (s.cfg.defaultBases →
      (∀ ex ey, ex < 256 → ey < 256 → 0x9800 ≤ s.mapAddress ex ey ∧ s.mapAddress ex ey ≤ 0x9FFF) ∧
      (∀ idx : Byte, s.lcdc.getLsbD s.cfg.lcdcDataBit = true →
        0x8000 ≤ s.tileAddress idx ∧ s.tileAddress idx ≤ 0x8FF0) ∧
      (∀ idx : Byte, s.lcdc.getLsbD s.cfg.lcdcDataBit = false →
        0x8800 ≤ s.tileAddress idx ∧ s.tileAddress idx ≤ 0x97F0))

/-- The pixel function is total in the window at the default bases, refused outside the window, and reads only SCX, SCY, LCDC, BGP
and VRAM (R244, R252): two states that agree on those and on the configuration's window, bases and bits give every pixel the same
shade. -/
def Obligations.PixelReadsOnlyThePpu : Prop :=
  (∀ (s : State) (x y : Nat), s.cfg.defaultBases →
    ((s.pixel x y).isSome = true ↔ x < s.cfg.screenW ∧ y < s.cfg.screenH)) ∧
  (∀ s t : State, t.scx = s.scx → t.scy = s.scy → t.lcdc = s.lcdc → t.bgp = s.bgp → t.cfg.samePixels s.cfg →
    (∀ a, 0x8000 ≤ a → a ≤ 0x9FFF → Memory.readByte t.mem a = Memory.readByte s.mem a) →
    ∀ x y, t.pixel x y = s.pixel x y)
end

