-- ==== Sys2Proof/Laws/Decode.lean ====
section
/-! SUPPORT. The entry of the primary table at each of the 256 opcode bytes (R115), so that no proof unfolds the table, and
what every entry of both tables satisfies. -/

set_option Elab.async false

namespace Sys2Proof

@[simp] theorem primaryTable_00 : primaryTable 0x00#8 = .op .unimpl00 := rfl
@[simp] theorem primaryTable_01 : primaryTable 0x01#8 = .imm16 .ldBcD16 := rfl
@[simp] theorem primaryTable_02 : primaryTable 0x02#8 = .op .unimpl02 := rfl
@[simp] theorem primaryTable_03 : primaryTable 0x03#8 = .op .unimpl03 := rfl
@[simp] theorem primaryTable_04 : primaryTable 0x04#8 = .op .incB := rfl
@[simp] theorem primaryTable_05 : primaryTable 0x05#8 = .op .decB := rfl
@[simp] theorem primaryTable_06 : primaryTable 0x06#8 = .imm8 .ldBD8 := rfl
@[simp] theorem primaryTable_07 : primaryTable 0x07#8 = .op .unimpl07 := rfl
@[simp] theorem primaryTable_08 : primaryTable 0x08#8 = .op .unimpl08 := rfl
@[simp] theorem primaryTable_09 : primaryTable 0x09#8 = .op .unimpl09 := rfl
@[simp] theorem primaryTable_0A : primaryTable 0x0A#8 = .op .unimpl0A := rfl
@[simp] theorem primaryTable_0B : primaryTable 0x0B#8 = .op .unimpl0B := rfl
@[simp] theorem primaryTable_0C : primaryTable 0x0C#8 = .op .incC := rfl
@[simp] theorem primaryTable_0D : primaryTable 0x0D#8 = .op .decC := rfl
@[simp] theorem primaryTable_0E : primaryTable 0x0E#8 = .imm8 .ldCD8 := rfl
@[simp] theorem primaryTable_0F : primaryTable 0x0F#8 = .op .unimpl0F := rfl
@[simp] theorem primaryTable_10 : primaryTable 0x10#8 = .op .unimpl10 := rfl
@[simp] theorem primaryTable_11 : primaryTable 0x11#8 = .imm16 .ldDeD16 := rfl
@[simp] theorem primaryTable_12 : primaryTable 0x12#8 = .op .unimpl12 := rfl
@[simp] theorem primaryTable_13 : primaryTable 0x13#8 = .op .unimpl13 := rfl
@[simp] theorem primaryTable_14 : primaryTable 0x14#8 = .op .incD := rfl
@[simp] theorem primaryTable_15 : primaryTable 0x15#8 = .op .decD := rfl
@[simp] theorem primaryTable_16 : primaryTable 0x16#8 = .imm8 .ldDD8 := rfl
@[simp] theorem primaryTable_17 : primaryTable 0x17#8 = .op .unimpl17 := rfl
@[simp] theorem primaryTable_18 : primaryTable 0x18#8 = .op .unimpl18 := rfl
@[simp] theorem primaryTable_19 : primaryTable 0x19#8 = .op .unimpl19 := rfl
@[simp] theorem primaryTable_1A : primaryTable 0x1A#8 = .op .unimpl1A := rfl
@[simp] theorem primaryTable_1B : primaryTable 0x1B#8 = .op .unimpl1B := rfl
@[simp] theorem primaryTable_1C : primaryTable 0x1C#8 = .op .incE := rfl
@[simp] theorem primaryTable_1D : primaryTable 0x1D#8 = .op .decE := rfl
@[simp] theorem primaryTable_1E : primaryTable 0x1E#8 = .imm8 .ldED8 := rfl
@[simp] theorem primaryTable_1F : primaryTable 0x1F#8 = .op .unimpl1F := rfl
@[simp] theorem primaryTable_20 : primaryTable 0x20#8 = .op .unimpl20 := rfl
@[simp] theorem primaryTable_21 : primaryTable 0x21#8 = .imm16 .ldHlD16 := rfl
@[simp] theorem primaryTable_22 : primaryTable 0x22#8 = .op .unimpl22 := rfl
@[simp] theorem primaryTable_23 : primaryTable 0x23#8 = .op .unimpl23 := rfl
@[simp] theorem primaryTable_24 : primaryTable 0x24#8 = .op .incH := rfl
@[simp] theorem primaryTable_25 : primaryTable 0x25#8 = .op .decH := rfl
@[simp] theorem primaryTable_26 : primaryTable 0x26#8 = .imm8 .ldHD8 := rfl
@[simp] theorem primaryTable_27 : primaryTable 0x27#8 = .op .unimpl27 := rfl
@[simp] theorem primaryTable_28 : primaryTable 0x28#8 = .op .unimpl28 := rfl
@[simp] theorem primaryTable_29 : primaryTable 0x29#8 = .op .unimpl29 := rfl
@[simp] theorem primaryTable_2A : primaryTable 0x2A#8 = .op .unimpl2A := rfl
@[simp] theorem primaryTable_2B : primaryTable 0x2B#8 = .op .unimpl2B := rfl
@[simp] theorem primaryTable_2C : primaryTable 0x2C#8 = .op .incL := rfl
@[simp] theorem primaryTable_2D : primaryTable 0x2D#8 = .op .decL := rfl
@[simp] theorem primaryTable_2E : primaryTable 0x2E#8 = .imm8 .ldLD8 := rfl
@[simp] theorem primaryTable_2F : primaryTable 0x2F#8 = .op .unimpl2F := rfl
@[simp] theorem primaryTable_30 : primaryTable 0x30#8 = .op .unimpl30 := rfl
@[simp] theorem primaryTable_31 : primaryTable 0x31#8 = .imm16 .ldSpD16 := rfl
@[simp] theorem primaryTable_32 : primaryTable 0x32#8 = .op .unimpl32 := rfl
@[simp] theorem primaryTable_33 : primaryTable 0x33#8 = .op .unimpl33 := rfl
@[simp] theorem primaryTable_34 : primaryTable 0x34#8 = .op .incAtHl := rfl
@[simp] theorem primaryTable_35 : primaryTable 0x35#8 = .op .decAtHl := rfl
@[simp] theorem primaryTable_36 : primaryTable 0x36#8 = .imm8 .ldAtHlD8 := rfl
@[simp] theorem primaryTable_37 : primaryTable 0x37#8 = .op .unimpl37 := rfl
@[simp] theorem primaryTable_38 : primaryTable 0x38#8 = .op .unimpl38 := rfl
@[simp] theorem primaryTable_39 : primaryTable 0x39#8 = .op .unimpl39 := rfl
@[simp] theorem primaryTable_3A : primaryTable 0x3A#8 = .op .unimpl3A := rfl
@[simp] theorem primaryTable_3B : primaryTable 0x3B#8 = .op .unimpl3B := rfl
@[simp] theorem primaryTable_3C : primaryTable 0x3C#8 = .op .incA := rfl
@[simp] theorem primaryTable_3D : primaryTable 0x3D#8 = .op .decA := rfl
@[simp] theorem primaryTable_3E : primaryTable 0x3E#8 = .imm8 .ldAD8 := rfl
@[simp] theorem primaryTable_3F : primaryTable 0x3F#8 = .op .unimpl3F := rfl
@[simp] theorem primaryTable_40 : primaryTable 0x40#8 = .op .ldBB := rfl
@[simp] theorem primaryTable_41 : primaryTable 0x41#8 = .op .ldBC := rfl
@[simp] theorem primaryTable_42 : primaryTable 0x42#8 = .op .ldBD := rfl
@[simp] theorem primaryTable_43 : primaryTable 0x43#8 = .op .ldBE := rfl
@[simp] theorem primaryTable_44 : primaryTable 0x44#8 = .op .ldBH := rfl
@[simp] theorem primaryTable_45 : primaryTable 0x45#8 = .op .ldBL := rfl
@[simp] theorem primaryTable_46 : primaryTable 0x46#8 = .op .ldBAtHl := rfl
@[simp] theorem primaryTable_47 : primaryTable 0x47#8 = .op .ldBA := rfl
@[simp] theorem primaryTable_48 : primaryTable 0x48#8 = .op .ldCB := rfl
@[simp] theorem primaryTable_49 : primaryTable 0x49#8 = .op .ldCC := rfl
@[simp] theorem primaryTable_4A : primaryTable 0x4A#8 = .op .ldCD := rfl
@[simp] theorem primaryTable_4B : primaryTable 0x4B#8 = .op .ldCE := rfl
@[simp] theorem primaryTable_4C : primaryTable 0x4C#8 = .op .ldCH := rfl
@[simp] theorem primaryTable_4D : primaryTable 0x4D#8 = .op .ldCL := rfl
@[simp] theorem primaryTable_4E : primaryTable 0x4E#8 = .op .ldCAtHl := rfl
@[simp] theorem primaryTable_4F : primaryTable 0x4F#8 = .op .ldCA := rfl
@[simp] theorem primaryTable_50 : primaryTable 0x50#8 = .op .ldDB := rfl
@[simp] theorem primaryTable_51 : primaryTable 0x51#8 = .op .ldDC := rfl
@[simp] theorem primaryTable_52 : primaryTable 0x52#8 = .op .ldDD := rfl
@[simp] theorem primaryTable_53 : primaryTable 0x53#8 = .op .ldDE := rfl
@[simp] theorem primaryTable_54 : primaryTable 0x54#8 = .op .ldDH := rfl
@[simp] theorem primaryTable_55 : primaryTable 0x55#8 = .op .ldDL := rfl
@[simp] theorem primaryTable_56 : primaryTable 0x56#8 = .op .ldDAtHl := rfl
@[simp] theorem primaryTable_57 : primaryTable 0x57#8 = .op .ldDA := rfl
@[simp] theorem primaryTable_58 : primaryTable 0x58#8 = .op .ldEB := rfl
@[simp] theorem primaryTable_59 : primaryTable 0x59#8 = .op .ldEC := rfl
@[simp] theorem primaryTable_5A : primaryTable 0x5A#8 = .op .ldED := rfl
@[simp] theorem primaryTable_5B : primaryTable 0x5B#8 = .op .ldEE := rfl
@[simp] theorem primaryTable_5C : primaryTable 0x5C#8 = .op .ldEH := rfl
@[simp] theorem primaryTable_5D : primaryTable 0x5D#8 = .op .ldEL := rfl
@[simp] theorem primaryTable_5E : primaryTable 0x5E#8 = .op .ldEAtHl := rfl
@[simp] theorem primaryTable_5F : primaryTable 0x5F#8 = .op .ldEA := rfl
@[simp] theorem primaryTable_60 : primaryTable 0x60#8 = .op .ldHB := rfl
@[simp] theorem primaryTable_61 : primaryTable 0x61#8 = .op .ldHC := rfl
@[simp] theorem primaryTable_62 : primaryTable 0x62#8 = .op .ldHD := rfl
@[simp] theorem primaryTable_63 : primaryTable 0x63#8 = .op .ldHE := rfl
@[simp] theorem primaryTable_64 : primaryTable 0x64#8 = .op .ldHH := rfl
@[simp] theorem primaryTable_65 : primaryTable 0x65#8 = .op .ldHL := rfl
@[simp] theorem primaryTable_66 : primaryTable 0x66#8 = .op .ldHAtHl := rfl
@[simp] theorem primaryTable_67 : primaryTable 0x67#8 = .op .ldHA := rfl
@[simp] theorem primaryTable_68 : primaryTable 0x68#8 = .op .ldLB := rfl
@[simp] theorem primaryTable_69 : primaryTable 0x69#8 = .op .ldLC := rfl
@[simp] theorem primaryTable_6A : primaryTable 0x6A#8 = .op .ldLD := rfl
@[simp] theorem primaryTable_6B : primaryTable 0x6B#8 = .op .ldLE := rfl
@[simp] theorem primaryTable_6C : primaryTable 0x6C#8 = .op .ldLH := rfl
@[simp] theorem primaryTable_6D : primaryTable 0x6D#8 = .op .ldLL := rfl
@[simp] theorem primaryTable_6E : primaryTable 0x6E#8 = .op .ldLAtHl := rfl
@[simp] theorem primaryTable_6F : primaryTable 0x6F#8 = .op .ldLA := rfl
@[simp] theorem primaryTable_70 : primaryTable 0x70#8 = .op .ldAtHlB := rfl
@[simp] theorem primaryTable_71 : primaryTable 0x71#8 = .op .ldAtHlC := rfl
@[simp] theorem primaryTable_72 : primaryTable 0x72#8 = .op .ldAtHlD := rfl
@[simp] theorem primaryTable_73 : primaryTable 0x73#8 = .op .ldAtHlE := rfl
@[simp] theorem primaryTable_74 : primaryTable 0x74#8 = .op .ldAtHlH := rfl
@[simp] theorem primaryTable_75 : primaryTable 0x75#8 = .op .ldAtHlL := rfl
@[simp] theorem primaryTable_76 : primaryTable 0x76#8 = .op .unimpl76 := rfl
@[simp] theorem primaryTable_77 : primaryTable 0x77#8 = .op .ldAtHlA := rfl
@[simp] theorem primaryTable_78 : primaryTable 0x78#8 = .op .ldAB := rfl
@[simp] theorem primaryTable_79 : primaryTable 0x79#8 = .op .ldAC := rfl
@[simp] theorem primaryTable_7A : primaryTable 0x7A#8 = .op .ldAD := rfl
@[simp] theorem primaryTable_7B : primaryTable 0x7B#8 = .op .ldAE := rfl
@[simp] theorem primaryTable_7C : primaryTable 0x7C#8 = .op .ldAH := rfl
@[simp] theorem primaryTable_7D : primaryTable 0x7D#8 = .op .ldAL := rfl
@[simp] theorem primaryTable_7E : primaryTable 0x7E#8 = .op .ldAAtHl := rfl
@[simp] theorem primaryTable_7F : primaryTable 0x7F#8 = .op .ldAA := rfl
@[simp] theorem primaryTable_80 : primaryTable 0x80#8 = .op .addAB := rfl
@[simp] theorem primaryTable_81 : primaryTable 0x81#8 = .op .addAC := rfl
@[simp] theorem primaryTable_82 : primaryTable 0x82#8 = .op .addAD := rfl
@[simp] theorem primaryTable_83 : primaryTable 0x83#8 = .op .addAE := rfl
@[simp] theorem primaryTable_84 : primaryTable 0x84#8 = .op .addAH := rfl
@[simp] theorem primaryTable_85 : primaryTable 0x85#8 = .op .addAL := rfl
@[simp] theorem primaryTable_86 : primaryTable 0x86#8 = .op .addAAtHl := rfl
@[simp] theorem primaryTable_87 : primaryTable 0x87#8 = .op .addAA := rfl
@[simp] theorem primaryTable_88 : primaryTable 0x88#8 = .op .unimpl88 := rfl
@[simp] theorem primaryTable_89 : primaryTable 0x89#8 = .op .unimpl89 := rfl
@[simp] theorem primaryTable_8A : primaryTable 0x8A#8 = .op .unimpl8A := rfl
@[simp] theorem primaryTable_8B : primaryTable 0x8B#8 = .op .unimpl8B := rfl
@[simp] theorem primaryTable_8C : primaryTable 0x8C#8 = .op .unimpl8C := rfl
@[simp] theorem primaryTable_8D : primaryTable 0x8D#8 = .op .unimpl8D := rfl
@[simp] theorem primaryTable_8E : primaryTable 0x8E#8 = .op .unimpl8E := rfl
@[simp] theorem primaryTable_8F : primaryTable 0x8F#8 = .op .unimpl8F := rfl
@[simp] theorem primaryTable_90 : primaryTable 0x90#8 = .op .subB := rfl
@[simp] theorem primaryTable_91 : primaryTable 0x91#8 = .op .subC := rfl
@[simp] theorem primaryTable_92 : primaryTable 0x92#8 = .op .subD := rfl
@[simp] theorem primaryTable_93 : primaryTable 0x93#8 = .op .subE := rfl
@[simp] theorem primaryTable_94 : primaryTable 0x94#8 = .op .subH := rfl
@[simp] theorem primaryTable_95 : primaryTable 0x95#8 = .op .subL := rfl
@[simp] theorem primaryTable_96 : primaryTable 0x96#8 = .op .subAtHl := rfl
@[simp] theorem primaryTable_97 : primaryTable 0x97#8 = .op .subA := rfl
@[simp] theorem primaryTable_98 : primaryTable 0x98#8 = .op .unimpl98 := rfl
@[simp] theorem primaryTable_99 : primaryTable 0x99#8 = .op .unimpl99 := rfl
@[simp] theorem primaryTable_9A : primaryTable 0x9A#8 = .op .unimpl9A := rfl
@[simp] theorem primaryTable_9B : primaryTable 0x9B#8 = .op .unimpl9B := rfl
@[simp] theorem primaryTable_9C : primaryTable 0x9C#8 = .op .unimpl9C := rfl
@[simp] theorem primaryTable_9D : primaryTable 0x9D#8 = .op .unimpl9D := rfl
@[simp] theorem primaryTable_9E : primaryTable 0x9E#8 = .op .unimpl9E := rfl
@[simp] theorem primaryTable_9F : primaryTable 0x9F#8 = .op .unimpl9F := rfl
@[simp] theorem primaryTable_A0 : primaryTable 0xA0#8 = .op .andB := rfl
@[simp] theorem primaryTable_A1 : primaryTable 0xA1#8 = .op .andC := rfl
@[simp] theorem primaryTable_A2 : primaryTable 0xA2#8 = .op .andD := rfl
@[simp] theorem primaryTable_A3 : primaryTable 0xA3#8 = .op .andE := rfl
@[simp] theorem primaryTable_A4 : primaryTable 0xA4#8 = .op .andH := rfl
@[simp] theorem primaryTable_A5 : primaryTable 0xA5#8 = .op .andL := rfl
@[simp] theorem primaryTable_A6 : primaryTable 0xA6#8 = .op .andAtHl := rfl
@[simp] theorem primaryTable_A7 : primaryTable 0xA7#8 = .op .andA := rfl
@[simp] theorem primaryTable_A8 : primaryTable 0xA8#8 = .op .xorB := rfl
@[simp] theorem primaryTable_A9 : primaryTable 0xA9#8 = .op .xorC := rfl
@[simp] theorem primaryTable_AA : primaryTable 0xAA#8 = .op .xorD := rfl
@[simp] theorem primaryTable_AB : primaryTable 0xAB#8 = .op .xorE := rfl
@[simp] theorem primaryTable_AC : primaryTable 0xAC#8 = .op .xorH := rfl
@[simp] theorem primaryTable_AD : primaryTable 0xAD#8 = .op .xorL := rfl
@[simp] theorem primaryTable_AE : primaryTable 0xAE#8 = .op .xorAtHl := rfl
@[simp] theorem primaryTable_AF : primaryTable 0xAF#8 = .op .xorA := rfl
@[simp] theorem primaryTable_B0 : primaryTable 0xB0#8 = .op .orB := rfl
@[simp] theorem primaryTable_B1 : primaryTable 0xB1#8 = .op .orC := rfl
@[simp] theorem primaryTable_B2 : primaryTable 0xB2#8 = .op .orD := rfl
@[simp] theorem primaryTable_B3 : primaryTable 0xB3#8 = .op .orE := rfl
@[simp] theorem primaryTable_B4 : primaryTable 0xB4#8 = .op .orH := rfl
@[simp] theorem primaryTable_B5 : primaryTable 0xB5#8 = .op .orL := rfl
@[simp] theorem primaryTable_B6 : primaryTable 0xB6#8 = .op .orAtHl := rfl
@[simp] theorem primaryTable_B7 : primaryTable 0xB7#8 = .op .orA := rfl
@[simp] theorem primaryTable_B8 : primaryTable 0xB8#8 = .op .cpB := rfl
@[simp] theorem primaryTable_B9 : primaryTable 0xB9#8 = .op .cpC := rfl
@[simp] theorem primaryTable_BA : primaryTable 0xBA#8 = .op .cpD := rfl
@[simp] theorem primaryTable_BB : primaryTable 0xBB#8 = .op .cpE := rfl
@[simp] theorem primaryTable_BC : primaryTable 0xBC#8 = .op .cpH := rfl
@[simp] theorem primaryTable_BD : primaryTable 0xBD#8 = .op .cpL := rfl
@[simp] theorem primaryTable_BE : primaryTable 0xBE#8 = .op .cpAtHl := rfl
@[simp] theorem primaryTable_BF : primaryTable 0xBF#8 = .op .cpA := rfl
@[simp] theorem primaryTable_C0 : primaryTable 0xC0#8 = .op .unimplC0 := rfl
@[simp] theorem primaryTable_C1 : primaryTable 0xC1#8 = .op .popBc := rfl
@[simp] theorem primaryTable_C2 : primaryTable 0xC2#8 = .op .unimplC2 := rfl
@[simp] theorem primaryTable_C3 : primaryTable 0xC3#8 = .op .unimplC3 := rfl
@[simp] theorem primaryTable_C4 : primaryTable 0xC4#8 = .op .unimplC4 := rfl
@[simp] theorem primaryTable_C5 : primaryTable 0xC5#8 = .op .pushBc := rfl
@[simp] theorem primaryTable_C6 : primaryTable 0xC6#8 = .imm8 .addAD8 := rfl
@[simp] theorem primaryTable_C7 : primaryTable 0xC7#8 = .op .unimplC7 := rfl
@[simp] theorem primaryTable_C8 : primaryTable 0xC8#8 = .op .unimplC8 := rfl
@[simp] theorem primaryTable_C9 : primaryTable 0xC9#8 = .op .ret := rfl
@[simp] theorem primaryTable_CA : primaryTable 0xCA#8 = .op .unimplCA := rfl
@[simp] theorem primaryTable_CB : primaryTable 0xCB#8 = .extended := rfl
@[simp] theorem primaryTable_CC : primaryTable 0xCC#8 = .op .unimplCC := rfl
@[simp] theorem primaryTable_CD : primaryTable 0xCD#8 = .imm16 .callA16 := rfl
@[simp] theorem primaryTable_CE : primaryTable 0xCE#8 = .op .unimplCE := rfl
@[simp] theorem primaryTable_CF : primaryTable 0xCF#8 = .op .unimplCF := rfl
@[simp] theorem primaryTable_D0 : primaryTable 0xD0#8 = .op .unimplD0 := rfl
@[simp] theorem primaryTable_D1 : primaryTable 0xD1#8 = .op .popDe := rfl
@[simp] theorem primaryTable_D2 : primaryTable 0xD2#8 = .op .unimplD2 := rfl
@[simp] theorem primaryTable_D3 : primaryTable 0xD3#8 = .op .unimplD3 := rfl
@[simp] theorem primaryTable_D4 : primaryTable 0xD4#8 = .op .unimplD4 := rfl
@[simp] theorem primaryTable_D5 : primaryTable 0xD5#8 = .op .pushDe := rfl
@[simp] theorem primaryTable_D6 : primaryTable 0xD6#8 = .imm8 .subD8 := rfl
@[simp] theorem primaryTable_D7 : primaryTable 0xD7#8 = .op .unimplD7 := rfl
@[simp] theorem primaryTable_D8 : primaryTable 0xD8#8 = .op .unimplD8 := rfl
@[simp] theorem primaryTable_D9 : primaryTable 0xD9#8 = .op .unimplD9 := rfl
@[simp] theorem primaryTable_DA : primaryTable 0xDA#8 = .op .unimplDA := rfl
@[simp] theorem primaryTable_DB : primaryTable 0xDB#8 = .op .unimplDB := rfl
@[simp] theorem primaryTable_DC : primaryTable 0xDC#8 = .op .unimplDC := rfl
@[simp] theorem primaryTable_DD : primaryTable 0xDD#8 = .op .unimplDD := rfl
@[simp] theorem primaryTable_DE : primaryTable 0xDE#8 = .op .unimplDE := rfl
@[simp] theorem primaryTable_DF : primaryTable 0xDF#8 = .op .unimplDF := rfl
@[simp] theorem primaryTable_E0 : primaryTable 0xE0#8 = .op .unimplE0 := rfl
@[simp] theorem primaryTable_E1 : primaryTable 0xE1#8 = .op .popHl := rfl
@[simp] theorem primaryTable_E2 : primaryTable 0xE2#8 = .op .unimplE2 := rfl
@[simp] theorem primaryTable_E3 : primaryTable 0xE3#8 = .op .unimplE3 := rfl
@[simp] theorem primaryTable_E4 : primaryTable 0xE4#8 = .op .unimplE4 := rfl
@[simp] theorem primaryTable_E5 : primaryTable 0xE5#8 = .op .pushHl := rfl
@[simp] theorem primaryTable_E6 : primaryTable 0xE6#8 = .imm8 .andD8 := rfl
@[simp] theorem primaryTable_E7 : primaryTable 0xE7#8 = .op .unimplE7 := rfl
@[simp] theorem primaryTable_E8 : primaryTable 0xE8#8 = .op .unimplE8 := rfl
@[simp] theorem primaryTable_E9 : primaryTable 0xE9#8 = .op .unimplE9 := rfl
@[simp] theorem primaryTable_EA : primaryTable 0xEA#8 = .imm16 .ldAtA16A := rfl
@[simp] theorem primaryTable_EB : primaryTable 0xEB#8 = .op .unimplEB := rfl
@[simp] theorem primaryTable_EC : primaryTable 0xEC#8 = .op .unimplEC := rfl
@[simp] theorem primaryTable_ED : primaryTable 0xED#8 = .op .unimplED := rfl
@[simp] theorem primaryTable_EE : primaryTable 0xEE#8 = .imm8 .xorD8 := rfl
@[simp] theorem primaryTable_EF : primaryTable 0xEF#8 = .op .unimplEF := rfl
@[simp] theorem primaryTable_F0 : primaryTable 0xF0#8 = .op .unimplF0 := rfl
@[simp] theorem primaryTable_F1 : primaryTable 0xF1#8 = .op .unimplF1 := rfl
@[simp] theorem primaryTable_F2 : primaryTable 0xF2#8 = .op .unimplF2 := rfl
@[simp] theorem primaryTable_F3 : primaryTable 0xF3#8 = .op .di := rfl
@[simp] theorem primaryTable_F4 : primaryTable 0xF4#8 = .op .unimplF4 := rfl
@[simp] theorem primaryTable_F5 : primaryTable 0xF5#8 = .op .unimplF5 := rfl
@[simp] theorem primaryTable_F6 : primaryTable 0xF6#8 = .imm8 .orD8 := rfl
@[simp] theorem primaryTable_F7 : primaryTable 0xF7#8 = .op .unimplF7 := rfl
@[simp] theorem primaryTable_F8 : primaryTable 0xF8#8 = .imm8 .ldHlSpR8 := rfl
@[simp] theorem primaryTable_F9 : primaryTable 0xF9#8 = .op .unimplF9 := rfl
@[simp] theorem primaryTable_FA : primaryTable 0xFA#8 = .op .unimplFA := rfl
@[simp] theorem primaryTable_FB : primaryTable 0xFB#8 = .op .ei := rfl
@[simp] theorem primaryTable_FC : primaryTable 0xFC#8 = .op .unimplFC := rfl
@[simp] theorem primaryTable_FD : primaryTable 0xFD#8 = .op .unimplFD := rfl
@[simp] theorem primaryTable_FE : primaryTable 0xFE#8 = .imm8 .cpD8 := rfl
@[simp] theorem primaryTable_FF : primaryTable 0xFF#8 = .op .unimplFF := rfl

/-- The byte the table gives the prefix is the only one without an entry of its own. -/
theorem primaryTable_extended {op : Byte} : primaryTable op = .extended ↔ op = prefixCode := by
  constructor
  · intro h
    have key : ∀ n, n < 256 → (BitVec.ofNat 8 n = prefixCode ∨ primaryTable (BitVec.ofNat 8 n) ≠ .extended) := by
      intro n hn
      interval_cases n <;> first | exact .inl rfl | exact .inr nofun
    have := key op.toNat op.isLt
    simp only [BitVec.ofNat_toNat, BitVec.setWidth_eq] at this
    exact this.resolve_right (fun hn => hn h)
  · rintro rfl
    rfl

theorem decodeWith_op {p op : Byte} {i : Instr} (hp : op ≠ p) (h : primaryTable op = .op i) (rest : List Byte) :
    decodeWith p (op :: rest) = .ok (i, rest) := by simp only [decodeWith, if_neg hp, h]

theorem decodeWith_imm8 {p op : Byte} {make : Byte → Instr} (hp : op ≠ p) (h : primaryTable op = .imm8 make) (b1 : Byte)
    (rest : List Byte) : decodeWith p (op :: b1 :: rest) = .ok (make b1, rest) := by simp only [decodeWith, if_neg hp, h]

theorem decodeWith_imm16 {p op : Byte} {make : Byte → Byte → Instr} (hp : op ≠ p) (h : primaryTable op = .imm16 make)
    (b1 b2 : Byte) (rest : List Byte) : decodeWith p (op :: b1 :: b2 :: rest) = .ok (make b1 b2, rest) := by
  simp only [decodeWith, if_neg hp, h]

theorem decodeWith_extended (p op2 : Byte) (rest : List Byte) :
    decodeWith p (p :: op2 :: rest) = .ok (extendedTable op2, rest) := by simp only [decodeWith, if_true]

theorem decodeWith_alone (p : Byte) : decodeWith p [p] = .ok (.prefixByte, []) := by simp only [decodeWith, if_true]

/-- What an entry of the primary table says of its instruction: the bytes it is decoded from are its encoding. -/
def EntryOk (op : Byte) : Prop :=
  match primaryTable op with
  | .op i => encode i = [op] ∧ i.wellFormed = true ∧ i ≠ .prefixByte
  | .imm8 make => ∀ b1, encode (make b1) = [op, b1] ∧ (make b1).wellFormed = true
  | .imm16 make => ∀ b1 b2, encode (make b1 b2) = [op, b1, b2] ∧ (make b1 b2).wellFormed = true
  | .extended => op = prefixCode

theorem entryOk (op : Byte) : EntryOk op := by
  have key : ∀ n, n < 256 → EntryOk (BitVec.ofNat 8 n) := by
    intro n hn
    interval_cases n <;> first
      | exact ⟨rfl, rfl, nofun⟩
      | exact fun b1 => ⟨rfl, rfl⟩
      | exact fun b1 b2 => ⟨rfl, rfl⟩
      | exact rfl
  simpa using key op.toNat op.isLt

/-- The same of an entry of the extended table. -/
theorem extendedTable_ok (op2 : Byte) :
    encode (extendedTable op2) = [prefixCode, op2] ∧ (extendedTable op2).wellFormed = true := by
  obtain ⟨g, hg⟩ : ∃ g, op2.toNat / 8 = g := ⟨_, rfl⟩
  have hlt : g < 32 := by
    have := op2.isLt
    omega
  unfold extendedTable
  rw [hg]
  interval_cases g <;> exact ⟨rfl, beq_iff_eq.2 hg⟩

end Sys2Proof
end

