-- ==== Sys2Proof/Laws/Memory.lean ====
section
/-! SUPPORT. Memory: reading after writing, and that every operation keeps the canonical form. -/

namespace Sys2Proof.Machine

theorem Memory.readByte_keep_self (k : Nat) (v : Byte) (rest : Memory) (h : Memory.readByte rest k = Memory.unlisted) :
    Memory.readByte (Memory.keep k v rest) k = v := by
  by_cases hv : v = Memory.unlisted
  · simp [Memory.keep, hv, h]
  · simp [Memory.keep, hv, Memory.readByte]

theorem Memory.readByte_keep_of_ne (k k' : Nat) (v : Byte) (rest : Memory) (h : k' ≠ k) :
    Memory.readByte (Memory.keep k v rest) k' = Memory.readByte rest k' := by
  by_cases hv : v = Memory.unlisted
  · simp [Memory.keep, hv]
  · simp [Memory.keep, hv, Memory.readByte, Ne.symm h]

/-- A cell below every listed address reads as unlisted. -/
theorem Memory.readByte_of_below (mem : Memory) (k : Nat) (h : ∀ p ∈ mem, k < p.1) :
    Memory.readByte mem k = Memory.unlisted := by
  induction mem with
  | nil => rfl
  | cons p rest ih =>
    have hp := h p (by simp)
    simp only [Memory.readByte, Nat.ne_of_gt hp, if_false]
    exact ih fun q hq => h q (by simp [hq])

/-- Every entry of a written memory is the written one or an old one. -/
theorem Memory.mem_writeByte (mem : Memory) (k : Nat) (v : Byte) :
    ∀ p ∈ Memory.writeByte mem k v, p = (k, v) ∨ p ∈ mem := by
  induction mem with
  | nil =>
    intro p hp
    by_cases hv : v = Memory.unlisted <;> simp_all [Memory.writeByte, Memory.keep]
  | cons q rest ih =>
    intro p hp
    obtain ⟨k', v'⟩ := q
    simp only [Memory.writeByte, Memory.keep] at hp
    split at hp
    · split at hp <;> simp_all
    · split at hp
      · split at hp
        · exact .inr (List.mem_cons_of_mem _ hp)
        · rcases List.mem_cons.1 hp with h | h
          · exact .inl h
          · exact .inr (List.mem_cons_of_mem _ h)
      · rcases List.mem_cons.1 hp with rfl | hp
        · simp
        · rcases ih p hp with h | h <;> simp [h]

/-- Writing keeps the canonical form. -/
theorem Memory.wf_writeByte (mem : Memory) (k : Nat) (v : Byte) (h : Memory.wf mem) :
    Memory.wf (Memory.writeByte mem k v) := by
  induction mem with
  | nil =>
    by_cases hv : v = Memory.unlisted <;> simp [Memory.writeByte, Memory.keep, Memory.wf, hv]
  | cons q rest ih =>
    obtain ⟨k', v'⟩ := q
    obtain ⟨hs, hn⟩ := h
    rw [List.pairwise_cons] at hs
    have hrest : Memory.wf rest := ⟨hs.2, fun p hp => hn p (by simp [hp])⟩
    have hv' : v' ≠ Memory.unlisted := hn (k', v') (by simp)
    simp only [Memory.writeByte, Memory.keep]
    split
    · rename_i hk
      split
      · exact ⟨List.pairwise_cons.2 hs, hn⟩
      · rename_i hv
        refine ⟨List.pairwise_cons.2 ⟨?_, List.pairwise_cons.2 hs⟩, ?_⟩
        · intro p hp
          rcases List.mem_cons.1 hp with rfl | hp
          · exact hk
          · exact Nat.lt_trans hk (hs.1 p hp)
        · intro p hp
          rcases List.mem_cons.1 hp with rfl | hp
          · exact hv
          · exact hn p hp
    · split
      · rename_i hk
        subst hk
        split
        · exact hrest
        · rename_i hv
          refine ⟨List.pairwise_cons.2 ⟨hs.1, hs.2⟩, ?_⟩
          intro p hp
          rcases List.mem_cons.1 hp with rfl | hp
          · exact hv
          · exact hrest.2 p hp
      · have hw := ih hrest
        refine ⟨List.pairwise_cons.2 ⟨?_, hw.1⟩, ?_⟩
        · intro p hp
          rcases Memory.mem_writeByte rest k v p hp with rfl | hp
          · show k' < k
            omega
          · exact hs.1 p hp
        · intro p hp
          rcases List.mem_cons.1 hp with rfl | hp
          · exact hv'
          · exact hw.2 p hp

/-- Writing a cell leaves every other cell alone, in any list. -/
theorem Memory.readByte_writeByte_of_ne (mem : Memory) (k k' : Nat) (v : Byte) (h : k' ≠ k) :
    Memory.readByte (Memory.writeByte mem k v) k' = Memory.readByte mem k' := by
  induction mem with
  | nil => exact Memory.readByte_keep_of_ne k k' v [] h
  | cons q rest ih =>
    obtain ⟨j, w⟩ := q
    simp only [Memory.writeByte]
    split
    · exact Memory.readByte_keep_of_ne k k' v _ h
    · split
      · rename_i hk
        subst hk
        rw [Memory.readByte_keep_of_ne k k' v rest h]
        simp [Memory.readByte, Ne.symm h]
      · simp only [Memory.readByte, ih]

/-- Reading the cell just written gives the byte written. -/
theorem Memory.readByte_writeByte_self (mem : Memory) (k : Nat) (v : Byte) (h : Memory.wf mem) :
    Memory.readByte (Memory.writeByte mem k v) k = v := by
  induction mem with
  | nil => exact Memory.readByte_keep_self k v [] rfl
  | cons q rest ih =>
    obtain ⟨j, w⟩ := q
    obtain ⟨hs, hn⟩ := h
    rw [List.pairwise_cons] at hs
    simp only [Memory.writeByte]
    split
    · rename_i hk
      refine Memory.readByte_keep_self k v _ (Memory.readByte_of_below _ k ?_)
      intro p hp
      rcases List.mem_cons.1 hp with rfl | hp
      · exact hk
      · exact Nat.lt_trans hk (hs.1 p hp)
    · split
      · rename_i hk
        subst hk
        exact Memory.readByte_keep_self k v rest (Memory.readByte_of_below rest k hs.1)
      · rename_i hk
        simp only [Memory.readByte, Ne.symm hk, if_false]
        exact ih ⟨hs.2, fun p hp => hn p (by simp [hp])⟩

/-- An image built from bytes is canonical, and lists only cells of its range. -/
theorem Memory.wf_ofBytes (k : Nat) (bytes : List Byte) :
    Memory.wf (Memory.ofBytes k bytes) ∧ ∀ p ∈ Memory.ofBytes k bytes, k ≤ p.1 ∧ p.1 < k + bytes.length := by
  induction bytes generalizing k with
  | nil => simp [Memory.ofBytes, Memory.wf]
  | cons v rest ih =>
    obtain ⟨⟨hs, hn⟩, hr⟩ := ih (k + 1)
    have hr' : ∀ p ∈ Memory.ofBytes (k + 1) rest, k ≤ p.1 ∧ p.1 < k + (v :: rest).length := by
      intro p hp
      have := hr p hp
      simp only [List.length_cons]
      omega
    simp only [Memory.ofBytes, Memory.keep]
    split
    · exact ⟨⟨hs, hn⟩, hr'⟩
    · rename_i hv
      refine ⟨⟨List.pairwise_cons.2 ⟨fun p hp => ?_, hs⟩, ?_⟩, ?_⟩
      · exact Nat.lt_of_succ_le (hr p hp).1
      · intro p hp
        rcases List.mem_cons.1 hp with rfl | hp
        · exact hv
        · exact hn p hp
      · intro p hp
        rcases List.mem_cons.1 hp with rfl | hp
        · simp
        · exact hr' p hp

/-- Memory built from cells is canonical, and lists only cells that exist. -/
theorem Memory.wf_ofCells (cfg : Cfg) (cells : List Host.Cell) :
    Memory.wf (Memory.ofCells cfg cells) ∧ ∀ p ∈ Memory.ofCells cfg cells, cfg.ramCell p.1 = true := by
  induction cells with
  | nil => simp [Memory.ofCells, Memory.wf]
  | cons c rest ih =>
    obtain ⟨k, v⟩ := c
    unfold Memory.ofCells
    split
    · rename_i hk
      refine ⟨Memory.wf_writeByte _ k v ih.1, fun p hp => ?_⟩
      rcases Memory.mem_writeByte _ k v p hp with rfl | hp
      · exact hk
      · exact ih.2 p hp
    · exact ih

theorem ramCell_iff (cfg : Cfg) (k : Nat) : cfg.ramCell k = true ↔
    (0x8000 ≤ k ∧ k ≤ 0x9FFF) ∨ (0xC000 ≤ k ∧ k ≤ 0xDFFF) ∨ (cfg.apuLo.toNat ≤ k ∧ k ≤ cfg.apuHi.toNat) ∨
      (0xFF80 ≤ k ∧ k ≤ 0xFFFE) := by
  simp only [Cfg.ramCell, Bool.or_eq_true, Bool.and_eq_true, decide_eq_true_eq, or_assoc]

end Sys2Proof.Machine
end

