-- ==== Sys2Proof/Laws/State.lean ====
section
/-! SUPPORT. For each named update of the state, one lemma per field: what it leaves, and what it writes. -/

namespace Sys2Proof.Machine

@[simp] theorem State.tick_a (s : State) (n : Nat) : (s.tick n).a = s.a := rfl
@[simp] theorem State.tick_f (s : State) (n : Nat) : (s.tick n).f = s.f := rfl
@[simp] theorem State.tick_b (s : State) (n : Nat) : (s.tick n).b = s.b := rfl
@[simp] theorem State.tick_c (s : State) (n : Nat) : (s.tick n).c = s.c := rfl
@[simp] theorem State.tick_d (s : State) (n : Nat) : (s.tick n).d = s.d := rfl
@[simp] theorem State.tick_e (s : State) (n : Nat) : (s.tick n).e = s.e := rfl
@[simp] theorem State.tick_h (s : State) (n : Nat) : (s.tick n).h = s.h := rfl
@[simp] theorem State.tick_l (s : State) (n : Nat) : (s.tick n).l = s.l := rfl
@[simp] theorem State.tick_sp (s : State) (n : Nat) : (s.tick n).sp = s.sp := rfl
@[simp] theorem State.tick_pc (s : State) (n : Nat) : (s.tick n).pc = s.pc := rfl
@[simp] theorem State.tick_m (s : State) (n : Nat) : (s.tick n).m = s.m + n := rfl
@[simp] theorem State.tick_t (s : State) (n : Nat) : (s.tick n).t = s.t + 4 * n := rfl
@[simp] theorem State.tick_ime (s : State) (n : Nat) : (s.tick n).ime = s.ime := rfl
@[simp] theorem State.tick_pendDi (s : State) (n : Nat) : (s.tick n).pendDi = s.pendDi := rfl
@[simp] theorem State.tick_pendEi (s : State) (n : Nat) : (s.tick n).pendEi = s.pendEi := rfl
@[simp] theorem State.tick_fault (s : State) (n : Nat) : (s.tick n).fault = s.fault := rfl
@[simp] theorem State.tick_bootDone (s : State) (n : Nat) : (s.tick n).bootDone = s.bootDone := rfl
@[simp] theorem State.tick_mem (s : State) (n : Nat) : (s.tick n).mem = s.mem := rfl
@[simp] theorem State.tick_ifReg (s : State) (n : Nat) : (s.tick n).ifReg = s.ifReg := rfl
@[simp] theorem State.tick_ieReg (s : State) (n : Nat) : (s.tick n).ieReg = s.ieReg := rfl
@[simp] theorem State.tick_lcdc (s : State) (n : Nat) : (s.tick n).lcdc = s.lcdc := rfl
@[simp] theorem State.tick_stat (s : State) (n : Nat) : (s.tick n).stat = s.stat := rfl
@[simp] theorem State.tick_scy (s : State) (n : Nat) : (s.tick n).scy = s.scy := rfl
@[simp] theorem State.tick_scx (s : State) (n : Nat) : (s.tick n).scx = s.scx := rfl
@[simp] theorem State.tick_bgp (s : State) (n : Nat) : (s.tick n).bgp = s.bgp := rfl
@[simp] theorem State.tick_draws (s : State) (n : Nat) : (s.tick n).draws = s.draws := rfl
@[simp] theorem State.tick_cfg (s : State) (n : Nat) : (s.tick n).cfg = s.cfg := rfl

@[simp] theorem State.setFlags_a (s : State) (z n h c : Bool) : (s.setFlags z n h c).a = s.a := rfl
@[simp] theorem State.setFlags_f (s : State) (z n h c : Bool) : (s.setFlags z n h c).f = flagByte z n h c := rfl
@[simp] theorem State.setFlags_b (s : State) (z n h c : Bool) : (s.setFlags z n h c).b = s.b := rfl
@[simp] theorem State.setFlags_c (s : State) (z n h c : Bool) : (s.setFlags z n h c).c = s.c := rfl
@[simp] theorem State.setFlags_d (s : State) (z n h c : Bool) : (s.setFlags z n h c).d = s.d := rfl
@[simp] theorem State.setFlags_e (s : State) (z n h c : Bool) : (s.setFlags z n h c).e = s.e := rfl
@[simp] theorem State.setFlags_h (s : State) (z n h c : Bool) : (s.setFlags z n h c).h = s.h := rfl
@[simp] theorem State.setFlags_l (s : State) (z n h c : Bool) : (s.setFlags z n h c).l = s.l := rfl
@[simp] theorem State.setFlags_sp (s : State) (z n h c : Bool) : (s.setFlags z n h c).sp = s.sp := rfl
@[simp] theorem State.setFlags_pc (s : State) (z n h c : Bool) : (s.setFlags z n h c).pc = s.pc := rfl
@[simp] theorem State.setFlags_m (s : State) (z n h c : Bool) : (s.setFlags z n h c).m = s.m := rfl
@[simp] theorem State.setFlags_t (s : State) (z n h c : Bool) : (s.setFlags z n h c).t = s.t := rfl
@[simp] theorem State.setFlags_ime (s : State) (z n h c : Bool) : (s.setFlags z n h c).ime = s.ime := rfl
@[simp] theorem State.setFlags_pendDi (s : State) (z n h c : Bool) : (s.setFlags z n h c).pendDi = s.pendDi := rfl
@[simp] theorem State.setFlags_pendEi (s : State) (z n h c : Bool) : (s.setFlags z n h c).pendEi = s.pendEi := rfl
@[simp] theorem State.setFlags_fault (s : State) (z n h c : Bool) : (s.setFlags z n h c).fault = s.fault := rfl
@[simp] theorem State.setFlags_bootDone (s : State) (z n h c : Bool) : (s.setFlags z n h c).bootDone = s.bootDone := rfl
@[simp] theorem State.setFlags_mem (s : State) (z n h c : Bool) : (s.setFlags z n h c).mem = s.mem := rfl
@[simp] theorem State.setFlags_ifReg (s : State) (z n h c : Bool) : (s.setFlags z n h c).ifReg = s.ifReg := rfl
@[simp] theorem State.setFlags_ieReg (s : State) (z n h c : Bool) : (s.setFlags z n h c).ieReg = s.ieReg := rfl
@[simp] theorem State.setFlags_lcdc (s : State) (z n h c : Bool) : (s.setFlags z n h c).lcdc = s.lcdc := rfl
@[simp] theorem State.setFlags_stat (s : State) (z n h c : Bool) : (s.setFlags z n h c).stat = s.stat := rfl
@[simp] theorem State.setFlags_scy (s : State) (z n h c : Bool) : (s.setFlags z n h c).scy = s.scy := rfl
@[simp] theorem State.setFlags_scx (s : State) (z n h c : Bool) : (s.setFlags z n h c).scx = s.scx := rfl
@[simp] theorem State.setFlags_bgp (s : State) (z n h c : Bool) : (s.setFlags z n h c).bgp = s.bgp := rfl
@[simp] theorem State.setFlags_draws (s : State) (z n h c : Bool) : (s.setFlags z n h c).draws = s.draws := rfl
@[simp] theorem State.setFlags_cfg (s : State) (z n h c : Bool) : (s.setFlags z n h c).cfg = s.cfg := rfl

@[simp] theorem State.resolve_a (s : State) : (s.resolve).a = s.a := rfl
@[simp] theorem State.resolve_f (s : State) : (s.resolve).f = s.f := rfl
@[simp] theorem State.resolve_b (s : State) : (s.resolve).b = s.b := rfl
@[simp] theorem State.resolve_c (s : State) : (s.resolve).c = s.c := rfl
@[simp] theorem State.resolve_d (s : State) : (s.resolve).d = s.d := rfl
@[simp] theorem State.resolve_e (s : State) : (s.resolve).e = s.e := rfl
@[simp] theorem State.resolve_h (s : State) : (s.resolve).h = s.h := rfl
@[simp] theorem State.resolve_l (s : State) : (s.resolve).l = s.l := rfl
@[simp] theorem State.resolve_sp (s : State) : (s.resolve).sp = s.sp := rfl
@[simp] theorem State.resolve_pc (s : State) : (s.resolve).pc = s.pc := rfl
@[simp] theorem State.resolve_m (s : State) : (s.resolve).m = s.m := rfl
@[simp] theorem State.resolve_t (s : State) : (s.resolve).t = s.t := rfl
@[simp] theorem State.resolve_ime (s : State) : (s.resolve).ime = (if s.pendEi then true else if s.pendDi then false else s.ime) := rfl
@[simp] theorem State.resolve_pendDi (s : State) : (s.resolve).pendDi = false := rfl
@[simp] theorem State.resolve_pendEi (s : State) : (s.resolve).pendEi = false := rfl
@[simp] theorem State.resolve_fault (s : State) : (s.resolve).fault = s.fault := rfl
@[simp] theorem State.resolve_bootDone (s : State) : (s.resolve).bootDone = s.bootDone := rfl
@[simp] theorem State.resolve_mem (s : State) : (s.resolve).mem = s.mem := rfl
@[simp] theorem State.resolve_ifReg (s : State) : (s.resolve).ifReg = s.ifReg := rfl
@[simp] theorem State.resolve_ieReg (s : State) : (s.resolve).ieReg = s.ieReg := rfl
@[simp] theorem State.resolve_lcdc (s : State) : (s.resolve).lcdc = s.lcdc := rfl
@[simp] theorem State.resolve_stat (s : State) : (s.resolve).stat = s.stat := rfl
@[simp] theorem State.resolve_scy (s : State) : (s.resolve).scy = s.scy := rfl
@[simp] theorem State.resolve_scx (s : State) : (s.resolve).scx = s.scx := rfl
@[simp] theorem State.resolve_bgp (s : State) : (s.resolve).bgp = s.bgp := rfl
@[simp] theorem State.resolve_draws (s : State) : (s.resolve).draws = s.draws := rfl
@[simp] theorem State.resolve_cfg (s : State) : (s.resolve).cfg = s.cfg := rfl

@[simp] theorem takeCondition_a (e : Fault) (s : State) : (takeCondition e s).a = s.a := rfl
@[simp] theorem takeCondition_f (e : Fault) (s : State) : (takeCondition e s).f = s.f := rfl
@[simp] theorem takeCondition_b (e : Fault) (s : State) : (takeCondition e s).b = s.b := rfl
@[simp] theorem takeCondition_c (e : Fault) (s : State) : (takeCondition e s).c = s.c := rfl
@[simp] theorem takeCondition_d (e : Fault) (s : State) : (takeCondition e s).d = s.d := rfl
@[simp] theorem takeCondition_e (e : Fault) (s : State) : (takeCondition e s).e = s.e := rfl
@[simp] theorem takeCondition_h (e : Fault) (s : State) : (takeCondition e s).h = s.h := rfl
@[simp] theorem takeCondition_l (e : Fault) (s : State) : (takeCondition e s).l = s.l := rfl
@[simp] theorem takeCondition_sp (e : Fault) (s : State) : (takeCondition e s).sp = s.sp := rfl
@[simp] theorem takeCondition_pc (e : Fault) (s : State) : (takeCondition e s).pc = s.pc := rfl
@[simp] theorem takeCondition_m (e : Fault) (s : State) : (takeCondition e s).m = s.m := rfl
@[simp] theorem takeCondition_t (e : Fault) (s : State) : (takeCondition e s).t = s.t := rfl
@[simp] theorem takeCondition_ime (e : Fault) (s : State) : (takeCondition e s).ime = s.ime := rfl
@[simp] theorem takeCondition_pendDi (e : Fault) (s : State) : (takeCondition e s).pendDi = s.pendDi := rfl
@[simp] theorem takeCondition_pendEi (e : Fault) (s : State) : (takeCondition e s).pendEi = s.pendEi := rfl
@[simp] theorem takeCondition_fault (e : Fault) (s : State) : (takeCondition e s).fault = some e := rfl
@[simp] theorem takeCondition_bootDone (e : Fault) (s : State) : (takeCondition e s).bootDone = s.bootDone := rfl
@[simp] theorem takeCondition_mem (e : Fault) (s : State) : (takeCondition e s).mem = s.mem := rfl
@[simp] theorem takeCondition_ifReg (e : Fault) (s : State) : (takeCondition e s).ifReg = s.ifReg := rfl
@[simp] theorem takeCondition_ieReg (e : Fault) (s : State) : (takeCondition e s).ieReg = s.ieReg := rfl
@[simp] theorem takeCondition_lcdc (e : Fault) (s : State) : (takeCondition e s).lcdc = s.lcdc := rfl
@[simp] theorem takeCondition_stat (e : Fault) (s : State) : (takeCondition e s).stat = s.stat := rfl
@[simp] theorem takeCondition_scy (e : Fault) (s : State) : (takeCondition e s).scy = s.scy := rfl
@[simp] theorem takeCondition_scx (e : Fault) (s : State) : (takeCondition e s).scx = s.scx := rfl
@[simp] theorem takeCondition_bgp (e : Fault) (s : State) : (takeCondition e s).bgp = s.bgp := rfl
@[simp] theorem takeCondition_draws (e : Fault) (s : State) : (takeCondition e s).draws = s.draws := rfl
@[simp] theorem takeCondition_cfg (e : Fault) (s : State) : (takeCondition e s).cfg = s.cfg := rfl

@[simp] theorem State.setReg_f (s : State) (r : Reg8) (v : Byte) : (s.setReg r v).f = s.f := by cases r <;> rfl
@[simp] theorem State.setReg_sp (s : State) (r : Reg8) (v : Byte) : (s.setReg r v).sp = s.sp := by cases r <;> rfl
@[simp] theorem State.setReg_pc (s : State) (r : Reg8) (v : Byte) : (s.setReg r v).pc = s.pc := by cases r <;> rfl
@[simp] theorem State.setReg_m (s : State) (r : Reg8) (v : Byte) : (s.setReg r v).m = s.m := by cases r <;> rfl
@[simp] theorem State.setReg_t (s : State) (r : Reg8) (v : Byte) : (s.setReg r v).t = s.t := by cases r <;> rfl
@[simp] theorem State.setReg_ime (s : State) (r : Reg8) (v : Byte) : (s.setReg r v).ime = s.ime := by cases r <;> rfl
@[simp] theorem State.setReg_pendDi (s : State) (r : Reg8) (v : Byte) : (s.setReg r v).pendDi = s.pendDi := by cases r <;> rfl
@[simp] theorem State.setReg_pendEi (s : State) (r : Reg8) (v : Byte) : (s.setReg r v).pendEi = s.pendEi := by cases r <;> rfl
@[simp] theorem State.setReg_fault (s : State) (r : Reg8) (v : Byte) : (s.setReg r v).fault = s.fault := by cases r <;> rfl
@[simp] theorem State.setReg_bootDone (s : State) (r : Reg8) (v : Byte) : (s.setReg r v).bootDone = s.bootDone := by cases r <;> rfl
@[simp] theorem State.setReg_mem (s : State) (r : Reg8) (v : Byte) : (s.setReg r v).mem = s.mem := by cases r <;> rfl
@[simp] theorem State.setReg_ifReg (s : State) (r : Reg8) (v : Byte) : (s.setReg r v).ifReg = s.ifReg := by cases r <;> rfl
@[simp] theorem State.setReg_ieReg (s : State) (r : Reg8) (v : Byte) : (s.setReg r v).ieReg = s.ieReg := by cases r <;> rfl
@[simp] theorem State.setReg_lcdc (s : State) (r : Reg8) (v : Byte) : (s.setReg r v).lcdc = s.lcdc := by cases r <;> rfl
@[simp] theorem State.setReg_stat (s : State) (r : Reg8) (v : Byte) : (s.setReg r v).stat = s.stat := by cases r <;> rfl
@[simp] theorem State.setReg_scy (s : State) (r : Reg8) (v : Byte) : (s.setReg r v).scy = s.scy := by cases r <;> rfl
@[simp] theorem State.setReg_scx (s : State) (r : Reg8) (v : Byte) : (s.setReg r v).scx = s.scx := by cases r <;> rfl
@[simp] theorem State.setReg_bgp (s : State) (r : Reg8) (v : Byte) : (s.setReg r v).bgp = s.bgp := by cases r <;> rfl
@[simp] theorem State.setReg_draws (s : State) (r : Reg8) (v : Byte) : (s.setReg r v).draws = s.draws := by cases r <;> rfl
@[simp] theorem State.setReg_cfg (s : State) (r : Reg8) (v : Byte) : (s.setReg r v).cfg = s.cfg := by cases r <;> rfl

@[simp] theorem State.setPair_a (s : State) (p : Pair) (v : Word) : (s.setPair p v).a = s.a := by cases p <;> rfl
@[simp] theorem State.setPair_f (s : State) (p : Pair) (v : Word) : (s.setPair p v).f = s.f := by cases p <;> rfl
@[simp] theorem State.setPair_sp (s : State) (p : Pair) (v : Word) : (s.setPair p v).sp = s.sp := by cases p <;> rfl
@[simp] theorem State.setPair_pc (s : State) (p : Pair) (v : Word) : (s.setPair p v).pc = s.pc := by cases p <;> rfl
@[simp] theorem State.setPair_m (s : State) (p : Pair) (v : Word) : (s.setPair p v).m = s.m := by cases p <;> rfl
@[simp] theorem State.setPair_t (s : State) (p : Pair) (v : Word) : (s.setPair p v).t = s.t := by cases p <;> rfl
@[simp] theorem State.setPair_ime (s : State) (p : Pair) (v : Word) : (s.setPair p v).ime = s.ime := by cases p <;> rfl
@[simp] theorem State.setPair_pendDi (s : State) (p : Pair) (v : Word) : (s.setPair p v).pendDi = s.pendDi := by cases p <;> rfl
@[simp] theorem State.setPair_pendEi (s : State) (p : Pair) (v : Word) : (s.setPair p v).pendEi = s.pendEi := by cases p <;> rfl
@[simp] theorem State.setPair_fault (s : State) (p : Pair) (v : Word) : (s.setPair p v).fault = s.fault := by cases p <;> rfl
@[simp] theorem State.setPair_bootDone (s : State) (p : Pair) (v : Word) : (s.setPair p v).bootDone = s.bootDone := by cases p <;> rfl
@[simp] theorem State.setPair_mem (s : State) (p : Pair) (v : Word) : (s.setPair p v).mem = s.mem := by cases p <;> rfl
@[simp] theorem State.setPair_ifReg (s : State) (p : Pair) (v : Word) : (s.setPair p v).ifReg = s.ifReg := by cases p <;> rfl
@[simp] theorem State.setPair_ieReg (s : State) (p : Pair) (v : Word) : (s.setPair p v).ieReg = s.ieReg := by cases p <;> rfl
@[simp] theorem State.setPair_lcdc (s : State) (p : Pair) (v : Word) : (s.setPair p v).lcdc = s.lcdc := by cases p <;> rfl
@[simp] theorem State.setPair_stat (s : State) (p : Pair) (v : Word) : (s.setPair p v).stat = s.stat := by cases p <;> rfl
@[simp] theorem State.setPair_scy (s : State) (p : Pair) (v : Word) : (s.setPair p v).scy = s.scy := by cases p <;> rfl
@[simp] theorem State.setPair_scx (s : State) (p : Pair) (v : Word) : (s.setPair p v).scx = s.scx := by cases p <;> rfl
@[simp] theorem State.setPair_bgp (s : State) (p : Pair) (v : Word) : (s.setPair p v).bgp = s.bgp := by cases p <;> rfl
@[simp] theorem State.setPair_draws (s : State) (p : Pair) (v : Word) : (s.setPair p v).draws = s.draws := by cases p <;> rfl
@[simp] theorem State.setPair_cfg (s : State) (p : Pair) (v : Word) : (s.setPair p v).cfg = s.cfg := by cases p <;> rfl

@[simp] theorem State.getReg_setReg_self (s : State) (r : Reg8) (v : Byte) : (s.setReg r v).getReg r = v := by
  cases r <;> rfl

theorem State.getReg_setReg_of_ne (s : State) (r r' : Reg8) (v : Byte) (h : r' ≠ r) :
    (s.setReg r v).getReg r' = s.getReg r' := by
  cases r <;> cases r' <;> first | rfl | exact absurd rfl h

theorem hi8_lo8 (v : Word) : word (hi8 v) (lo8 v) = v := by
  apply BitVec.eq_of_toNat_eq
  simp only [word, hi8, lo8, BitVec.toNat_append, BitVec.extractLsb'_toNat, Nat.shiftRight_eq_div_pow]
  rw [← Nat.shiftLeft_add_eq_or_of_lt (by omega), Nat.shiftLeft_eq]
  have := v.isLt
  omega

theorem word_toNat (x y : Byte) : (word x y).toNat = x.toNat * 256 + y.toNat := by
  simp only [word, BitVec.toNat_append]
  rw [← Nat.shiftLeft_add_eq_or_of_lt y.isLt, Nat.shiftLeft_eq]

@[simp] theorem hi8_word (x y : Byte) : hi8 (word x y) = x := by
  apply BitVec.eq_of_toNat_eq
  simp only [hi8, BitVec.extractLsb'_toNat, Nat.shiftRight_eq_div_pow, word_toNat]
  have := x.isLt
  have := y.isLt
  omega

@[simp] theorem lo8_word (x y : Byte) : lo8 (word x y) = y := by
  apply BitVec.eq_of_toNat_eq
  simp only [lo8, BitVec.extractLsb'_toNat, Nat.shiftRight_eq_div_pow, word_toNat]
  have := y.isLt
  omega

@[simp] theorem State.getPair_setPair_self (s : State) (p : Pair) (v : Word) : (s.setPair p v).getPair p = v := by
  cases p <;> exact hi8_lo8 v

/-- The low nibble of every flag byte is zero (R21). -/
theorem flagByte_low (z n h c : Bool) : flagByte z n h c &&& 0x0F = 0 := by
  cases z <;> cases n <;> cases h <;> cases c <;> decide

end Sys2Proof.Machine
end

