-- ==== Sys2Proof/Laws/Ops.lean ====
section
/-! SUPPORT. For each shared operation, what it can do, said once. -/

namespace Sys2Proof.Machine

/-! ## The router: the rows the configuration does not move -/

section
variable {cfg : Cfg} {overlay : Bool} {a : Nat}

theorem owner_low (h : a ≤ 0x3FFF) :
    owner cfg overlay a = .romLow ∨ (owner cfg overlay a = .bootRom ∧ a ≤ 0x00FF ∧ overlay = true) := by
  unfold owner
  by_cases hb : a ≤ 0x00FF ∧ overlay = true
  · exact .inr ⟨if_pos hb, hb⟩
  · exact .inl (by rw [if_neg hb, if_pos h])

theorem owner_romHigh (h : 0x4000 ≤ a ∧ a ≤ 0x7FFF) : owner cfg overlay a = .romHigh := by
  simp (disch := omega) only [owner, if_neg, if_pos]

theorem owner_vram (h : 0x8000 ≤ a ∧ a ≤ 0x9FFF) : owner cfg overlay a = .ram a := by
  simp (disch := omega) only [owner, if_neg, if_pos]

theorem owner_wram (h : 0xC000 ≤ a ∧ a ≤ 0xDFFF) : owner cfg overlay a = .ram a := by
  simp (disch := omega) only [owner, if_neg, if_pos]

theorem owner_echo (h : 0xE000 ≤ a ∧ a ≤ 0xFDFF) : owner cfg overlay a = .ram (a - 0x2000) := by
  simp (disch := omega) only [owner, if_neg, if_pos]

theorem owner_registers (h : (0xA000 ≤ a ∧ a ≤ 0xBFFF) ∨ 0xFE00 ≤ a) :
    owner cfg overlay a = registerOwner cfg a := by
  simp (disch := omega) only [owner, if_neg]

/-- The overlay decides the owner of the first 256 addresses only (R64). -/
theorem owner_of_high (h : 0x00FF < a) (o o' : Bool) : owner cfg o a = owner cfg o' a := by
  have h1 : ¬(a ≤ 0x00FF ∧ o = true) := by omega
  have h2 : ¬(a ≤ 0x00FF ∧ o' = true) := by omega
  simp only [owner, h1, h2, if_false]

end

/-- The region table of R61 as a relation: an address, and its owner. -/
inductive OwnedBy (cfg : Cfg) (overlay : Bool) (a : Word) : Owner → Prop where
  | boot (h : a.toNat ≤ 0x00FF) (o : overlay = true) : OwnedBy cfg overlay a .bootRom
  | romLow (h : a.toNat ≤ 0x3FFF) (o : overlay = false ∨ 0x00FF < a.toNat) : OwnedBy cfg overlay a .romLow
  | romHigh (h : 0x4000 ≤ a.toNat ∧ a.toNat ≤ 0x7FFF) : OwnedBy cfg overlay a .romHigh
  | ram (h : cfg.ramCell a.toNat = true) (hi : 0x8000 ≤ a.toNat) : OwnedBy cfg overlay a (.ram a.toNat)
  | echo (k : Nat) (h : 0xC000 ≤ k ∧ k ≤ 0xDDFF) (e : a.toNat = k + 0x2000) : OwnedBy cfg overlay a (.ram k)
  | ifByte (h : a = cfg.addrIf) (hr : isRegisterRange a) : OwnedBy cfg overlay a .ifByte
  | lcdc (h : a = cfg.addrLcdc) (hr : isRegisterRange a) : OwnedBy cfg overlay a .lcdc
  | stat (h : a = cfg.addrStat) (hr : isRegisterRange a) : OwnedBy cfg overlay a .stat
  | scy (h : a = cfg.addrScy) (hr : isRegisterRange a) : OwnedBy cfg overlay a .scy
  | scx (h : a = cfg.addrScx) (hr : isRegisterRange a) : OwnedBy cfg overlay a .scx
  | ly (h : a = cfg.addrLy) (hr : isRegisterRange a) : OwnedBy cfg overlay a .ly
  | bgp (h : a = cfg.addrBgp) (hr : isRegisterRange a) : OwnedBy cfg overlay a .bgp
  | bootComplete (h : a = cfg.addrBootOff) (hr : isRegisterRange a) : OwnedBy cfg overlay a .bootComplete
  | ieByte (h : a = 0xFFFF) : OwnedBy cfg overlay a .ieByte
  | nobody (h : noOwner cfg a) : OwnedBy cfg overlay a .nobody

/-- The rows of the configuration, high RAM and IE, tried in the table's order. -/
theorem registerOwner_ownedBy (cfg : Cfg) (overlay : Bool) (a : Word) (hr : isRegisterRange a) :
    OwnedBy cfg overlay a (registerOwner cfg a.toNat) := by
  have hi : 0x8000 ≤ a.toNat := by unfold isRegisterRange at hr; omega
  unfold registerOwner
  simp only [BitVec.toNat_inj]
  by_cases h1 : a = cfg.addrIf
  · rw [if_pos h1]; exact .ifByte h1 hr
  rw [if_neg h1]
  by_cases h2 : cfg.apuLo.toNat ≤ a.toNat ∧ a.toNat ≤ cfg.apuHi.toNat
  · rw [if_pos h2]; exact .ram ((ramCell_iff cfg _).2 (by omega)) hi
  rw [if_neg h2]
  by_cases h3 : a = cfg.addrLcdc
  · rw [if_pos h3]; exact .lcdc h3 hr
  rw [if_neg h3]
  by_cases h4 : a = cfg.addrStat
  · rw [if_pos h4]; exact .stat h4 hr
  rw [if_neg h4]
  by_cases h5 : a = cfg.addrScy
  · rw [if_pos h5]; exact .scy h5 hr
  rw [if_neg h5]
  by_cases h6 : a = cfg.addrScx
  · rw [if_pos h6]; exact .scx h6 hr
  rw [if_neg h6]
  by_cases h7 : a = cfg.addrLy
  · rw [if_pos h7]; exact .ly h7 hr
  rw [if_neg h7]
  by_cases h8 : a = cfg.addrBgp
  · rw [if_pos h8]; exact .bgp h8 hr
  rw [if_neg h8]
  by_cases h9 : a = cfg.addrBootOff
  · rw [if_pos h9]; exact .bootComplete h9 hr
  rw [if_neg h9]
  by_cases h10 : 0xFF80 ≤ a.toNat ∧ a.toNat ≤ 0xFFFE
  · rw [if_pos h10]; exact .ram ((ramCell_iff cfg _).2 (by omega)) hi
  rw [if_neg h10]
  have hlt := a.isLt
  by_cases h11 : a.toNat = Params.addrIe
  · rw [if_pos h11]; exact .ieByte (BitVec.eq_of_toNat_eq h11)
  rw [if_neg h11]
  change ¬ a.toNat = 0xFFFF at h11
  refine .nobody ⟨hr, ?_, h7, h9, h2, by omega⟩
  simp only [plainRegisters, List.mem_cons, List.not_mem_nil, h1, h3, h4, h5, h6, h8, or_self, not_false_eq_true]

/-- The router answers the row of the region table. -/
theorem owner_ownedBy (cfg : Cfg) (overlay : Bool) (a : Word) : OwnedBy cfg overlay a (owner cfg overlay a.toNat) := by
  have hlt := a.isLt
  by_cases h1 : a.toNat ≤ 0x3FFF
  · by_cases hb : a.toNat ≤ 0x00FF ∧ overlay = true
    · rw [show owner cfg overlay a.toNat = .bootRom from if_pos hb]; exact .boot hb.1 hb.2
    · rw [show owner cfg overlay a.toNat = .romLow from (if_neg hb).trans (if_pos h1)]
      refine .romLow h1 ?_
      cases overlay
      · exact .inl rfl
      · exact .inr (by simp at hb; omega)
  by_cases h2 : a.toNat ≤ 0x7FFF
  · rw [owner_romHigh (by omega)]; exact .romHigh (by omega)
  by_cases h3 : a.toNat ≤ 0x9FFF
  · rw [owner_vram (by omega)]; exact .ram ((ramCell_iff cfg _).2 (by omega)) (by omega)
  by_cases h5 : 0xC000 ≤ a.toNat ∧ a.toNat ≤ 0xDFFF
  · rw [owner_wram h5]; exact .ram ((ramCell_iff cfg _).2 (by omega)) (by omega)
  by_cases h6 : 0xE000 ≤ a.toNat ∧ a.toNat ≤ 0xFDFF
  · rw [owner_echo h6]; exact .echo _ (by omega) (by omega)
  rw [owner_registers (by omega)]
  exact registerOwner_ownedBy cfg overlay a (by unfold isRegisterRange; omega)

theorem State.ownedBy (s : State) (a : Word) : OwnedBy s.cfg s.overlay a (s.ownerOf a) := owner_ownedBy _ _ _

/-- The cell an address names: its own, or the work RAM byte an echo address shows (R61, R70). -/
theorem ownedBy_ram {cfg : Cfg} {overlay : Bool} {a : Word} {k : Nat} (h : OwnedBy cfg overlay a (.ram k)) :
    (a.toNat = k ∧ cfg.ramCell k = true) ∨ (a.toNat = k + 0x2000 ∧ 0xC000 ≤ k ∧ k ≤ 0xDDFF) := by
  generalize ho : Owner.ram k = o at h
  cases h <;> cases ho
  case ram h _ => exact .inl ⟨rfl, h⟩
  case echo h e => exact .inr ⟨e, h⟩

/-- Every cell the router names is a cell of a RAM (R61). -/
theorem owner_ram {cfg : Cfg} {overlay : Bool} {a : Word} {k : Nat} (h : OwnedBy cfg overlay a (.ram k)) :
    cfg.ramCell k = true := by
  rcases ownedBy_ram h with ⟨-, h⟩ | ⟨-, h⟩
  · exact h
  · exact (ramCell_iff cfg k).2 (by omega)

/-! ## Stores -/

/-- What a store of `v` can be (R63), by the owner of the address: nothing, a byte of RAM or of a register, or the one-way switch of
the overlay. -/
inductive Stored (s : State) (v : Byte) : Owner → State → Prop where
  | nothing (o : Owner) : Stored s v o s
  | ram (k : Nat) : Stored s v (.ram k) { s with mem := Memory.writeByte s.mem k v }
  | ifByte : Stored s v .ifByte { s with ifReg := v }
  | ieByte : Stored s v .ieByte { s with ieReg := v }
  | lcdc : Stored s v .lcdc { s with lcdc := v }
  | stat : Stored s v .stat { s with stat := v }
  | scy : Stored s v .scy { s with scy := v }
  | scx : Stored s v .scx { s with scx := v }
  | bgp : Stored s v .bgp { s with bgp := v }
  | bootComplete : Stored s v .bootComplete { s with bootDone := true }

theorem State.store_stored {s t : State} {a : Word} {v : Byte} (h : s.store a v = some t) : Stored s v (s.ownerOf a) t := by
  unfold State.store at h
  cases ho : s.ownerOf a <;> rw [ho] at h
  case bootRom | romLow | ly => cases h; exact .nothing _
  case romHigh =>
    cases hr : s.cfg.romHiWrite <;> rw [hr] at h <;> cases h
    exact .nothing _
  case ram => cases h; exact .ram _
  case ifByte => cases h; exact .ifByte
  case ieByte => cases h; exact .ieByte
  case lcdc => cases h; exact .lcdc
  case stat => cases h; exact .stat
  case scy => cases h; exact .scy
  case scx => cases h; exact .scx
  case bgp => cases h; exact .bgp
  case bootComplete =>
    by_cases hv : v = 0
    · simp only [hv, if_true, Option.some.injEq] at h
      subst h
      exact .nothing _
    · simp only [hv, if_false, Option.some.injEq] at h
      subst h
      exact .bootComplete
  case nobody => cases h

/-- What a store never writes: the CPU's state, the draws and the configuration (R63). -/
structure SameCpu (s u : State) : Prop where
  a : u.a = s.a
  f : u.f = s.f
  b : u.b = s.b
  c : u.c = s.c
  d : u.d = s.d
  e : u.e = s.e
  h : u.h = s.h
  l : u.l = s.l
  sp : u.sp = s.sp
  pc : u.pc = s.pc
  m : u.m = s.m
  t : u.t = s.t
  ime : u.ime = s.ime
  pendDi : u.pendDi = s.pendDi
  pendEi : u.pendEi = s.pendEi
  fault : u.fault = s.fault
  draws : u.draws = s.draws
  cfg : u.cfg = s.cfg

theorem State.store_sameCpu {s t : State} {a : Word} {v : Byte} (h : s.store a v = some t) : SameCpu s t := by
  have hs := State.store_stored h
  generalize s.ownerOf a = o at hs
  cases hs <;> constructor <;> rfl

/-- A store keeps memory canonical and within the cells that exist. -/
theorem State.store_mem {s t : State} {a : Word} {v : Byte} (h : s.store a v = some t) :
    (Memory.wf s.mem → Memory.wf t.mem) ∧
    ((∀ p ∈ s.mem, s.cfg.ramCell p.1 = true) → ∀ p ∈ t.mem, t.cfg.ramCell p.1 = true) := by
  have hs := State.store_stored h
  have ho := State.ownedBy s a
  generalize s.ownerOf a = o at hs ho
  cases hs with
  | ram k =>
    refine ⟨Memory.wf_writeByte s.mem k v, fun hc p hp => ?_⟩
    rcases Memory.mem_writeByte s.mem k v p hp with rfl | hp
    · exact owner_ram ho
    · exact hc p hp
  | _ => exact ⟨id, id⟩

/-- BOOT_DONE is never cleared by a store (R32). -/
theorem State.store_bootDone {s t : State} {a : Word} {v : Byte} (h : s.store a v = some t)
    (hb : s.bootDone = true) : t.bootDone = true := by
  have hs := State.store_stored h
  generalize s.ownerOf a = o at hs
  cases hs <;> first | exact hb | rfl

/-! ## Byte accesses -/

/-- `rd8` by what the address reads as. -/
theorem rd8_eq (a : Word) (s : State) :
    rd8 a s = match s.lookup a with
      | .byte v => .ok v (s.tick 1)
      | .draw => .ok (Config.draw s.draws) (State.tick { s with draws := s.draws + 1 } 1)
      | .unmapped => .raise (.unmappedAddress a .read) s := by
  unfold rd8 memRead
  cases s.lookup a <;> rfl

/-- `wr8` by what the store gives. -/
theorem wr8_eq (a : Word) (v : Byte) (s : State) :
    wr8 a v s = match s.store a v with
      | some t => .ok () (t.tick 1)
      | none => .raise (.unmappedAddress a .write) s := by
  unfold wr8 memWrite
  cases s.store a v <;> rfl

/-- `fetch8` by what PC reads as (R142). -/
theorem fetch8_eq (s : State) :
    fetch8 s = match s.lookup s.pc with
      | .byte v => .ok v { s.tick 1 with pc := s.pc + 1 }
      | .draw => .ok (Config.draw s.draws) { State.tick { s with draws := s.draws + 1 } 1 with pc := s.pc + 1 }
      | .unmapped => .raise (.unmappedAddress s.pc .read) s := by
  unfold fetch8
  rw [rd8_eq]
  cases s.lookup s.pc <;> rfl

/-- A meaning that ends through `finish` answers a next state. -/
theorem Res.finish_next (r : Res Unit) : ∃ t, r.finish = .next t := by
  cases r <;> exact ⟨_, rfl⟩

/-! ## What reading an address depends on -/

/-- Reading looks at the storage behind the bus and the configuration alone. -/
theorem State.lookup_congr {s t : State} (hm : t.mem = s.mem) (hb : t.bootDone = s.bootDone) (hc : t.cfg = s.cfg)
    (hif : t.ifReg = s.ifReg) (hie : t.ieReg = s.ieReg) (h1 : t.lcdc = s.lcdc) (h2 : t.stat = s.stat)
    (h3 : t.scy = s.scy) (h4 : t.scx = s.scx) (h5 : t.bgp = s.bgp) (a : Word) : t.lookup a = s.lookup a := by
  simp only [State.lookup, State.ownerOf, State.overlay, hm, hb, hc, hif, hie, h1, h2, h3, h4, h5]

@[simp] theorem State.lookup_tick (s : State) (n : Nat) (a : Word) : (s.tick n).lookup a = s.lookup a := rfl
@[simp] theorem State.lookup_resolve (s : State) (a : Word) : s.resolve.lookup a = s.lookup a := rfl
@[simp] theorem State.lookup_setFlags (s : State) (z n h c : Bool) (a : Word) :
    (s.setFlags z n h c).lookup a = s.lookup a := rfl
@[simp] theorem State.lookup_setReg (s : State) (r : Reg8) (v : Byte) (a : Word) :
    (s.setReg r v).lookup a = s.lookup a := by cases r <;> rfl
@[simp] theorem State.lookup_setPair (s : State) (p : Pair) (v : Word) (a : Word) :
    (s.setPair p v).lookup a = s.lookup a := by cases p <;> rfl
@[simp] theorem takeCondition_lookup (e : Fault) (s : State) (a : Word) : (takeCondition e s).lookup a = s.lookup a := rfl
@[simp] theorem State.lookup_fetched (s : State) (n : Nat) (a : Word) : (s.fetched n).lookup a = s.lookup a := rfl

/-! ## The step -/

/-- A step with no condition latched: resolve, then fetch, then the dispatch (R140). -/
theorem step_of_no_fault {s : State} (h : s.fault = none) :
    step s = match fetchInstr s.resolve with
      | .ok i s' => endStep i (exec i s')
      | .raise e s' => .next (takeCondition e s') := by
  unfold step runStep
  split
  · rename_i e he
    rw [h] at he
    cases he
  · rfl

/-- The end of a step that answers a next state: that of the meaning, with the cycles it left counted where nothing was raised
(R146). -/
theorem endStep_next {i : Instr} {o : Host.Outcome State Fault Refusal} {t : State} (h : endStep i o = .next t) :
    ∃ u, o = .next u ∧ t.fault = u.fault ∧
      ((u.fault = none ∧ t = u.tick (restCycles u.cfg i)) ∨ (u.fault ≠ none ∧ t = u)) := by
  cases o with
  | next u =>
    unfold endStep at h
    cases hf : u.fault <;> simp only [hf] at h <;> cases h
    · exact ⟨u, rfl, by simp [hf], .inl ⟨hf, rfl⟩⟩
    · exact ⟨t, rfl, rfl, .inr ⟨by simp [hf], rfl⟩⟩
  | fault e => cases h
  | refused r => cases h

theorem endStep_ok {i : Instr} {u : State} (h : u.fault = none) :
    endStep i (.next u) = .next (u.tick (restCycles u.cfg i)) := by
  simp only [endStep, h]

theorem endStep_raised {i : Instr} {u : State} {e : Fault} (h : u.fault = some e) : endStep i (.next u) = .next u := by
  simp only [endStep, h]

/-- A step that answers a next state started with no condition latched. -/
theorem no_fault_of_step_next {s t : State} (h : step s = .next t) : s.fault = none := by
  unfold step runStep at h
  split at h
  · exact absurd h (by simp)
  · assumption

end Sys2Proof.Machine
end

