-- ==== Sys2Proof/Laws/Exec.lean ====
section
/-! SUPPORT. The shapes of the instructions: every instruction is one of some twenty forms, and `exec` of a form is its
shared operation, so that a claim about every instruction is proved form by form. -/

set_option Elab.async false

namespace Sys2Proof.Machine

/-- The forms of R111 and R115, one constructor per family, and the unimplemented entries. -/
inductive InstrForm : Instr → Prop where
  | ldRegImm8 (r : Reg8) (d8 : Byte) : InstrForm (Instr.ldRegImm8 r d8)
  | ldAtHlD8 (d8 : Byte) : InstrForm (.ldAtHlD8 d8)
  | ldPairImm16 (p : Pair) (b1 b2 : Byte) : InstrForm (Instr.ldPairImm16 p b1 b2)
  | ldSpD16 (b1 b2 : Byte) : InstrForm (.ldSpD16 b1 b2)
  | ldRegReg (r r' : Reg8) : InstrForm (Instr.ldRegReg r r')
  | ldRegAtHl (r : Reg8) : InstrForm (Instr.ldRegAtHl r)
  | ldAtHlReg (r : Reg8) : InstrForm (Instr.ldAtHlReg r)
  | ldAtA16A (b1 b2 : Byte) : InstrForm (.ldAtA16A b1 b2)
  | ldHlSpR8 (r8 : Byte) : InstrForm (.ldHlSpR8 r8)
  | aluReg (op : AluOp) (r : Reg8) : InstrForm (Instr.aluReg op r)
  | aluAtHl (op : AluOp) : InstrForm (Instr.aluAtHl op)
  | aluImm8 (op : AluOp) (d8 : Byte) : InstrForm (Instr.aluImm8 op d8)
  | incReg (r : Reg8) : InstrForm (Instr.incReg r)
  | decReg (r : Reg8) : InstrForm (Instr.decReg r)
  | incAtHl : InstrForm .incAtHl
  | decAtHl : InstrForm .decAtHl
  | pushPair (p : Pair) : InstrForm (Instr.pushPair p)
  | popPair (p : Pair) : InstrForm (Instr.popPair p)
  | callA16 (b1 b2 : Byte) : InstrForm (.callA16 b1 b2)
  | ret : InstrForm .ret
  | di : InstrForm .di
  | ei : InstrForm .ei
  | prefixByte : InstrForm .prefixByte
  | unimplemented (op : Byte) (i : Instr) (he : encode i = [op]) (ht : primaryTable op = .op i)
      (hx : exec i = raiseUnimplemented op) (hs : ∀ s, storeAddresses i s = []) (hd : destRegs op = [])
      (hf : writesFlags op = false)
      (hc : op ∉ ([0x31, 0xC5, 0xD5, 0xE5, 0xC1, 0xD1, 0xE1, 0xCD, 0xC9, 0xF3, 0xFB, 0xCB] : List Byte)) : InstrForm i
  | extended (op2 : Byte) (i : Instr) (he : encode i = [0xCB, op2]) (hx : exec i = raiseUnimplementedExtended op2)
      (hs : ∀ s, storeAddresses i s = []) (hw : i.wellFormed = true → extendedTable op2 = i) : InstrForm i

/-- A row of the extended table is the entry of each opcode it covers. -/
theorem extendedTable_of {g : Nat} {op2 : Byte} (h : coveredBy g op2 = true) :
    extendedTable op2 = match (generalizing := false) g with
      | 0 => .unimplCb00To07 op2
      | 1 => .unimplCb08To0F op2
      | 2 => .unimplCb10To17 op2
      | 3 => .unimplCb18To1F op2
      | 4 => .unimplCb20To27 op2
      | 5 => .unimplCb28To2F op2
      | 6 => .unimplCb30To37 op2
      | 7 => .unimplCb38To3F op2
      | 8 => .unimplCb40To47 op2
      | 9 => .unimplCb48To4F op2
      | 10 => .unimplCb50To57 op2
      | 11 => .unimplCb58To5F op2
      | 12 => .unimplCb60To67 op2
      | 13 => .unimplCb68To6F op2
      | 14 => .unimplCb70To77 op2
      | 15 => .unimplCb78To7F op2
      | 16 => .unimplCb80To87 op2
      | 17 => .unimplCb88To8F op2
      | 18 => .unimplCb90To97 op2
      | 19 => .unimplCb98To9F op2
      | 20 => .unimplCbA0ToA7 op2
      | 21 => .unimplCbA8ToAF op2
      | 22 => .unimplCbB0ToB7 op2
      | 23 => .unimplCbB8ToBF op2
      | 24 => .unimplCbC0ToC7 op2
      | 25 => .unimplCbC8ToCF op2
      | 26 => .unimplCbD0ToD7 op2
      | 27 => .unimplCbD8ToDF op2
      | 28 => .unimplCbE0ToE7 op2
      | 29 => .unimplCbE8ToEF op2
      | 30 => .unimplCbF0ToF7 op2
      | _ => .unimplCbF8ToFF op2 := by
  have : op2.toNat / 8 = g := eq_of_beq h
  subst this
  rfl

/-- Every instruction has its form. -/
theorem instrForm (i : Instr) : InstrForm i :=
  match i with
  | .unimpl00 => .unimplemented 0x00 _ rfl primaryTable_00 rfl (fun _ => rfl) rfl rfl (by decide)
  | .ldBcD16 b1 b2 => .ldPairImm16 .bc b1 b2
  | .unimpl02 => .unimplemented 0x02 _ rfl primaryTable_02 rfl (fun _ => rfl) rfl rfl (by decide)
  | .unimpl03 => .unimplemented 0x03 _ rfl primaryTable_03 rfl (fun _ => rfl) rfl rfl (by decide)
  | .incB => .incReg .b
  | .decB => .decReg .b
  | .ldBD8 d8 => .ldRegImm8 .b d8
  | .unimpl07 => .unimplemented 0x07 _ rfl primaryTable_07 rfl (fun _ => rfl) rfl rfl (by decide)
  | .unimpl08 => .unimplemented 0x08 _ rfl primaryTable_08 rfl (fun _ => rfl) rfl rfl (by decide)
  | .unimpl09 => .unimplemented 0x09 _ rfl primaryTable_09 rfl (fun _ => rfl) rfl rfl (by decide)
  | .unimpl0A => .unimplemented 0x0A _ rfl primaryTable_0A rfl (fun _ => rfl) rfl rfl (by decide)
  | .unimpl0B => .unimplemented 0x0B _ rfl primaryTable_0B rfl (fun _ => rfl) rfl rfl (by decide)
  | .incC => .incReg .c
  | .decC => .decReg .c
  | .ldCD8 d8 => .ldRegImm8 .c d8
  | .unimpl0F => .unimplemented 0x0F _ rfl primaryTable_0F rfl (fun _ => rfl) rfl rfl (by decide)
  | .unimpl10 => .unimplemented 0x10 _ rfl primaryTable_10 rfl (fun _ => rfl) rfl rfl (by decide)
  | .ldDeD16 b1 b2 => .ldPairImm16 .de b1 b2
  | .unimpl12 => .unimplemented 0x12 _ rfl primaryTable_12 rfl (fun _ => rfl) rfl rfl (by decide)
  | .unimpl13 => .unimplemented 0x13 _ rfl primaryTable_13 rfl (fun _ => rfl) rfl rfl (by decide)
  | .incD => .incReg .d
  | .decD => .decReg .d
  | .ldDD8 d8 => .ldRegImm8 .d d8
  | .unimpl17 => .unimplemented 0x17 _ rfl primaryTable_17 rfl (fun _ => rfl) rfl rfl (by decide)
  | .unimpl18 => .unimplemented 0x18 _ rfl primaryTable_18 rfl (fun _ => rfl) rfl rfl (by decide)
  | .unimpl19 => .unimplemented 0x19 _ rfl primaryTable_19 rfl (fun _ => rfl) rfl rfl (by decide)
  | .unimpl1A => .unimplemented 0x1A _ rfl primaryTable_1A rfl (fun _ => rfl) rfl rfl (by decide)
  | .unimpl1B => .unimplemented 0x1B _ rfl primaryTable_1B rfl (fun _ => rfl) rfl rfl (by decide)
  | .incE => .incReg .e
  | .decE => .decReg .e
  | .ldED8 d8 => .ldRegImm8 .e d8
  | .unimpl1F => .unimplemented 0x1F _ rfl primaryTable_1F rfl (fun _ => rfl) rfl rfl (by decide)
  | .unimpl20 => .unimplemented 0x20 _ rfl primaryTable_20 rfl (fun _ => rfl) rfl rfl (by decide)
  | .ldHlD16 b1 b2 => .ldPairImm16 .hl b1 b2
  | .unimpl22 => .unimplemented 0x22 _ rfl primaryTable_22 rfl (fun _ => rfl) rfl rfl (by decide)
  | .unimpl23 => .unimplemented 0x23 _ rfl primaryTable_23 rfl (fun _ => rfl) rfl rfl (by decide)
  | .incH => .incReg .h
  | .decH => .decReg .h
  | .ldHD8 d8 => .ldRegImm8 .h d8
  | .unimpl27 => .unimplemented 0x27 _ rfl primaryTable_27 rfl (fun _ => rfl) rfl rfl (by decide)
  | .unimpl28 => .unimplemented 0x28 _ rfl primaryTable_28 rfl (fun _ => rfl) rfl rfl (by decide)
  | .unimpl29 => .unimplemented 0x29 _ rfl primaryTable_29 rfl (fun _ => rfl) rfl rfl (by decide)
  | .unimpl2A => .unimplemented 0x2A _ rfl primaryTable_2A rfl (fun _ => rfl) rfl rfl (by decide)
  | .unimpl2B => .unimplemented 0x2B _ rfl primaryTable_2B rfl (fun _ => rfl) rfl rfl (by decide)
  | .incL => .incReg .l
  | .decL => .decReg .l
  | .ldLD8 d8 => .ldRegImm8 .l d8
  | .unimpl2F => .unimplemented 0x2F _ rfl primaryTable_2F rfl (fun _ => rfl) rfl rfl (by decide)
  | .unimpl30 => .unimplemented 0x30 _ rfl primaryTable_30 rfl (fun _ => rfl) rfl rfl (by decide)
  | .ldSpD16 b1 b2 => .ldSpD16 b1 b2
  | .unimpl32 => .unimplemented 0x32 _ rfl primaryTable_32 rfl (fun _ => rfl) rfl rfl (by decide)
  | .unimpl33 => .unimplemented 0x33 _ rfl primaryTable_33 rfl (fun _ => rfl) rfl rfl (by decide)
  | .incAtHl => .incAtHl
  | .decAtHl => .decAtHl
  | .ldAtHlD8 d8 => .ldAtHlD8 d8
  | .unimpl37 => .unimplemented 0x37 _ rfl primaryTable_37 rfl (fun _ => rfl) rfl rfl (by decide)
  | .unimpl38 => .unimplemented 0x38 _ rfl primaryTable_38 rfl (fun _ => rfl) rfl rfl (by decide)
  | .unimpl39 => .unimplemented 0x39 _ rfl primaryTable_39 rfl (fun _ => rfl) rfl rfl (by decide)
  | .unimpl3A => .unimplemented 0x3A _ rfl primaryTable_3A rfl (fun _ => rfl) rfl rfl (by decide)
  | .unimpl3B => .unimplemented 0x3B _ rfl primaryTable_3B rfl (fun _ => rfl) rfl rfl (by decide)
  | .incA => .incReg .a
  | .decA => .decReg .a
  | .ldAD8 d8 => .ldRegImm8 .a d8
  | .unimpl3F => .unimplemented 0x3F _ rfl primaryTable_3F rfl (fun _ => rfl) rfl rfl (by decide)
  | .ldBB => .ldRegReg .b .b
  | .ldBC => .ldRegReg .b .c
  | .ldBD => .ldRegReg .b .d
  | .ldBE => .ldRegReg .b .e
  | .ldBH => .ldRegReg .b .h
  | .ldBL => .ldRegReg .b .l
  | .ldBAtHl => .ldRegAtHl .b
  | .ldBA => .ldRegReg .b .a
  | .ldCB => .ldRegReg .c .b
  | .ldCC => .ldRegReg .c .c
  | .ldCD => .ldRegReg .c .d
  | .ldCE => .ldRegReg .c .e
  | .ldCH => .ldRegReg .c .h
  | .ldCL => .ldRegReg .c .l
  | .ldCAtHl => .ldRegAtHl .c
  | .ldCA => .ldRegReg .c .a
  | .ldDB => .ldRegReg .d .b
  | .ldDC => .ldRegReg .d .c
  | .ldDD => .ldRegReg .d .d
  | .ldDE => .ldRegReg .d .e
  | .ldDH => .ldRegReg .d .h
  | .ldDL => .ldRegReg .d .l
  | .ldDAtHl => .ldRegAtHl .d
  | .ldDA => .ldRegReg .d .a
  | .ldEB => .ldRegReg .e .b
  | .ldEC => .ldRegReg .e .c
  | .ldED => .ldRegReg .e .d
  | .ldEE => .ldRegReg .e .e
  | .ldEH => .ldRegReg .e .h
  | .ldEL => .ldRegReg .e .l
  | .ldEAtHl => .ldRegAtHl .e
  | .ldEA => .ldRegReg .e .a
  | .ldHB => .ldRegReg .h .b
  | .ldHC => .ldRegReg .h .c
  | .ldHD => .ldRegReg .h .d
  | .ldHE => .ldRegReg .h .e
  | .ldHH => .ldRegReg .h .h
  | .ldHL => .ldRegReg .h .l
  | .ldHAtHl => .ldRegAtHl .h
  | .ldHA => .ldRegReg .h .a
  | .ldLB => .ldRegReg .l .b
  | .ldLC => .ldRegReg .l .c
  | .ldLD => .ldRegReg .l .d
  | .ldLE => .ldRegReg .l .e
  | .ldLH => .ldRegReg .l .h
  | .ldLL => .ldRegReg .l .l
  | .ldLAtHl => .ldRegAtHl .l
  | .ldLA => .ldRegReg .l .a
  | .ldAtHlB => .ldAtHlReg .b
  | .ldAtHlC => .ldAtHlReg .c
  | .ldAtHlD => .ldAtHlReg .d
  | .ldAtHlE => .ldAtHlReg .e
  | .ldAtHlH => .ldAtHlReg .h
  | .ldAtHlL => .ldAtHlReg .l
  | .unimpl76 => .unimplemented 0x76 _ rfl primaryTable_76 rfl (fun _ => rfl) rfl rfl (by decide)
  | .ldAtHlA => .ldAtHlReg .a
  | .ldAB => .ldRegReg .a .b
  | .ldAC => .ldRegReg .a .c
  | .ldAD => .ldRegReg .a .d
  | .ldAE => .ldRegReg .a .e
  | .ldAH => .ldRegReg .a .h
  | .ldAL => .ldRegReg .a .l
  | .ldAAtHl => .ldRegAtHl .a
  | .ldAA => .ldRegReg .a .a
  | .addAB => .aluReg .add .b
  | .addAC => .aluReg .add .c
  | .addAD => .aluReg .add .d
  | .addAE => .aluReg .add .e
  | .addAH => .aluReg .add .h
  | .addAL => .aluReg .add .l
  | .addAAtHl => .aluAtHl .add
  | .addAA => .aluReg .add .a
  | .unimpl88 => .unimplemented 0x88 _ rfl primaryTable_88 rfl (fun _ => rfl) rfl rfl (by decide)
  | .unimpl89 => .unimplemented 0x89 _ rfl primaryTable_89 rfl (fun _ => rfl) rfl rfl (by decide)
  | .unimpl8A => .unimplemented 0x8A _ rfl primaryTable_8A rfl (fun _ => rfl) rfl rfl (by decide)
  | .unimpl8B => .unimplemented 0x8B _ rfl primaryTable_8B rfl (fun _ => rfl) rfl rfl (by decide)
  | .unimpl8C => .unimplemented 0x8C _ rfl primaryTable_8C rfl (fun _ => rfl) rfl rfl (by decide)
  | .unimpl8D => .unimplemented 0x8D _ rfl primaryTable_8D rfl (fun _ => rfl) rfl rfl (by decide)
  | .unimpl8E => .unimplemented 0x8E _ rfl primaryTable_8E rfl (fun _ => rfl) rfl rfl (by decide)
  | .unimpl8F => .unimplemented 0x8F _ rfl primaryTable_8F rfl (fun _ => rfl) rfl rfl (by decide)
  | .subB => .aluReg .sub .b
  | .subC => .aluReg .sub .c
  | .subD => .aluReg .sub .d
  | .subE => .aluReg .sub .e
  | .subH => .aluReg .sub .h
  | .subL => .aluReg .sub .l
  | .subAtHl => .aluAtHl .sub
  | .subA => .aluReg .sub .a
  | .unimpl98 => .unimplemented 0x98 _ rfl primaryTable_98 rfl (fun _ => rfl) rfl rfl (by decide)
  | .unimpl99 => .unimplemented 0x99 _ rfl primaryTable_99 rfl (fun _ => rfl) rfl rfl (by decide)
  | .unimpl9A => .unimplemented 0x9A _ rfl primaryTable_9A rfl (fun _ => rfl) rfl rfl (by decide)
  | .unimpl9B => .unimplemented 0x9B _ rfl primaryTable_9B rfl (fun _ => rfl) rfl rfl (by decide)
  | .unimpl9C => .unimplemented 0x9C _ rfl primaryTable_9C rfl (fun _ => rfl) rfl rfl (by decide)
  | .unimpl9D => .unimplemented 0x9D _ rfl primaryTable_9D rfl (fun _ => rfl) rfl rfl (by decide)
  | .unimpl9E => .unimplemented 0x9E _ rfl primaryTable_9E rfl (fun _ => rfl) rfl rfl (by decide)
  | .unimpl9F => .unimplemented 0x9F _ rfl primaryTable_9F rfl (fun _ => rfl) rfl rfl (by decide)
  | .andB => .aluReg .and .b
  | .andC => .aluReg .and .c
  | .andD => .aluReg .and .d
  | .andE => .aluReg .and .e
  | .andH => .aluReg .and .h
  | .andL => .aluReg .and .l
  | .andAtHl => .aluAtHl .and
  | .andA => .aluReg .and .a
  | .xorB => .aluReg .xor .b
  | .xorC => .aluReg .xor .c
  | .xorD => .aluReg .xor .d
  | .xorE => .aluReg .xor .e
  | .xorH => .aluReg .xor .h
  | .xorL => .aluReg .xor .l
  | .xorAtHl => .aluAtHl .xor
  | .xorA => .aluReg .xor .a
  | .orB => .aluReg .or .b
  | .orC => .aluReg .or .c
  | .orD => .aluReg .or .d
  | .orE => .aluReg .or .e
  | .orH => .aluReg .or .h
  | .orL => .aluReg .or .l
  | .orAtHl => .aluAtHl .or
  | .orA => .aluReg .or .a
  | .cpB => .aluReg .cp .b
  | .cpC => .aluReg .cp .c
  | .cpD => .aluReg .cp .d
  | .cpE => .aluReg .cp .e
  | .cpH => .aluReg .cp .h
  | .cpL => .aluReg .cp .l
  | .cpAtHl => .aluAtHl .cp
  | .cpA => .aluReg .cp .a
  | .unimplC0 => .unimplemented 0xC0 _ rfl primaryTable_C0 rfl (fun _ => rfl) rfl rfl (by decide)
  | .popBc => .popPair .bc
  | .unimplC2 => .unimplemented 0xC2 _ rfl primaryTable_C2 rfl (fun _ => rfl) rfl rfl (by decide)
  | .unimplC3 => .unimplemented 0xC3 _ rfl primaryTable_C3 rfl (fun _ => rfl) rfl rfl (by decide)
  | .unimplC4 => .unimplemented 0xC4 _ rfl primaryTable_C4 rfl (fun _ => rfl) rfl rfl (by decide)
  | .pushBc => .pushPair .bc
  | .addAD8 d8 => .aluImm8 .add d8
  | .unimplC7 => .unimplemented 0xC7 _ rfl primaryTable_C7 rfl (fun _ => rfl) rfl rfl (by decide)
  | .unimplC8 => .unimplemented 0xC8 _ rfl primaryTable_C8 rfl (fun _ => rfl) rfl rfl (by decide)
  | .ret => .ret
  | .unimplCA => .unimplemented 0xCA _ rfl primaryTable_CA rfl (fun _ => rfl) rfl rfl (by decide)
  | .prefixByte => .prefixByte
  | .unimplCC => .unimplemented 0xCC _ rfl primaryTable_CC rfl (fun _ => rfl) rfl rfl (by decide)
  | .callA16 b1 b2 => .callA16 b1 b2
  | .unimplCE => .unimplemented 0xCE _ rfl primaryTable_CE rfl (fun _ => rfl) rfl rfl (by decide)
  | .unimplCF => .unimplemented 0xCF _ rfl primaryTable_CF rfl (fun _ => rfl) rfl rfl (by decide)
  | .unimplD0 => .unimplemented 0xD0 _ rfl primaryTable_D0 rfl (fun _ => rfl) rfl rfl (by decide)
  | .popDe => .popPair .de
  | .unimplD2 => .unimplemented 0xD2 _ rfl primaryTable_D2 rfl (fun _ => rfl) rfl rfl (by decide)
  | .unimplD3 => .unimplemented 0xD3 _ rfl primaryTable_D3 rfl (fun _ => rfl) rfl rfl (by decide)
  | .unimplD4 => .unimplemented 0xD4 _ rfl primaryTable_D4 rfl (fun _ => rfl) rfl rfl (by decide)
  | .pushDe => .pushPair .de
  | .subD8 d8 => .aluImm8 .sub d8
  | .unimplD7 => .unimplemented 0xD7 _ rfl primaryTable_D7 rfl (fun _ => rfl) rfl rfl (by decide)
  | .unimplD8 => .unimplemented 0xD8 _ rfl primaryTable_D8 rfl (fun _ => rfl) rfl rfl (by decide)
  | .unimplD9 => .unimplemented 0xD9 _ rfl primaryTable_D9 rfl (fun _ => rfl) rfl rfl (by decide)
  | .unimplDA => .unimplemented 0xDA _ rfl primaryTable_DA rfl (fun _ => rfl) rfl rfl (by decide)
  | .unimplDB => .unimplemented 0xDB _ rfl primaryTable_DB rfl (fun _ => rfl) rfl rfl (by decide)
  | .unimplDC => .unimplemented 0xDC _ rfl primaryTable_DC rfl (fun _ => rfl) rfl rfl (by decide)
  | .unimplDD => .unimplemented 0xDD _ rfl primaryTable_DD rfl (fun _ => rfl) rfl rfl (by decide)
  | .unimplDE => .unimplemented 0xDE _ rfl primaryTable_DE rfl (fun _ => rfl) rfl rfl (by decide)
  | .unimplDF => .unimplemented 0xDF _ rfl primaryTable_DF rfl (fun _ => rfl) rfl rfl (by decide)
  | .unimplE0 => .unimplemented 0xE0 _ rfl primaryTable_E0 rfl (fun _ => rfl) rfl rfl (by decide)
  | .popHl => .popPair .hl
  | .unimplE2 => .unimplemented 0xE2 _ rfl primaryTable_E2 rfl (fun _ => rfl) rfl rfl (by decide)
  | .unimplE3 => .unimplemented 0xE3 _ rfl primaryTable_E3 rfl (fun _ => rfl) rfl rfl (by decide)
  | .unimplE4 => .unimplemented 0xE4 _ rfl primaryTable_E4 rfl (fun _ => rfl) rfl rfl (by decide)
  | .pushHl => .pushPair .hl
  | .andD8 d8 => .aluImm8 .and d8
  | .unimplE7 => .unimplemented 0xE7 _ rfl primaryTable_E7 rfl (fun _ => rfl) rfl rfl (by decide)
  | .unimplE8 => .unimplemented 0xE8 _ rfl primaryTable_E8 rfl (fun _ => rfl) rfl rfl (by decide)
  | .unimplE9 => .unimplemented 0xE9 _ rfl primaryTable_E9 rfl (fun _ => rfl) rfl rfl (by decide)
  | .ldAtA16A b1 b2 => .ldAtA16A b1 b2
  | .unimplEB => .unimplemented 0xEB _ rfl primaryTable_EB rfl (fun _ => rfl) rfl rfl (by decide)
  | .unimplEC => .unimplemented 0xEC _ rfl primaryTable_EC rfl (fun _ => rfl) rfl rfl (by decide)
  | .unimplED => .unimplemented 0xED _ rfl primaryTable_ED rfl (fun _ => rfl) rfl rfl (by decide)
  | .xorD8 d8 => .aluImm8 .xor d8
  | .unimplEF => .unimplemented 0xEF _ rfl primaryTable_EF rfl (fun _ => rfl) rfl rfl (by decide)
  | .unimplF0 => .unimplemented 0xF0 _ rfl primaryTable_F0 rfl (fun _ => rfl) rfl rfl (by decide)
  | .unimplF1 => .unimplemented 0xF1 _ rfl primaryTable_F1 rfl (fun _ => rfl) rfl rfl (by decide)
  | .unimplF2 => .unimplemented 0xF2 _ rfl primaryTable_F2 rfl (fun _ => rfl) rfl rfl (by decide)
  | .di => .di
  | .unimplF4 => .unimplemented 0xF4 _ rfl primaryTable_F4 rfl (fun _ => rfl) rfl rfl (by decide)
  | .unimplF5 => .unimplemented 0xF5 _ rfl primaryTable_F5 rfl (fun _ => rfl) rfl rfl (by decide)
  | .orD8 d8 => .aluImm8 .or d8
  | .unimplF7 => .unimplemented 0xF7 _ rfl primaryTable_F7 rfl (fun _ => rfl) rfl rfl (by decide)
  | .ldHlSpR8 r8 => .ldHlSpR8 r8
  | .unimplF9 => .unimplemented 0xF9 _ rfl primaryTable_F9 rfl (fun _ => rfl) rfl rfl (by decide)
  | .unimplFA => .unimplemented 0xFA _ rfl primaryTable_FA rfl (fun _ => rfl) rfl rfl (by decide)
  | .ei => .ei
  | .unimplFC => .unimplemented 0xFC _ rfl primaryTable_FC rfl (fun _ => rfl) rfl rfl (by decide)
  | .unimplFD => .unimplemented 0xFD _ rfl primaryTable_FD rfl (fun _ => rfl) rfl rfl (by decide)
  | .cpD8 d8 => .aluImm8 .cp d8
  | .unimplFF => .unimplemented 0xFF _ rfl primaryTable_FF rfl (fun _ => rfl) rfl rfl (by decide)
  | .unimplCb00To07 op2 => .extended op2 _ rfl rfl (fun _ => rfl) (extendedTable_of (g := 0))
  | .unimplCb08To0F op2 => .extended op2 _ rfl rfl (fun _ => rfl) (extendedTable_of (g := 1))
  | .unimplCb10To17 op2 => .extended op2 _ rfl rfl (fun _ => rfl) (extendedTable_of (g := 2))
  | .unimplCb18To1F op2 => .extended op2 _ rfl rfl (fun _ => rfl) (extendedTable_of (g := 3))
  | .unimplCb20To27 op2 => .extended op2 _ rfl rfl (fun _ => rfl) (extendedTable_of (g := 4))
  | .unimplCb28To2F op2 => .extended op2 _ rfl rfl (fun _ => rfl) (extendedTable_of (g := 5))
  | .unimplCb30To37 op2 => .extended op2 _ rfl rfl (fun _ => rfl) (extendedTable_of (g := 6))
  | .unimplCb38To3F op2 => .extended op2 _ rfl rfl (fun _ => rfl) (extendedTable_of (g := 7))
  | .unimplCb40To47 op2 => .extended op2 _ rfl rfl (fun _ => rfl) (extendedTable_of (g := 8))
  | .unimplCb48To4F op2 => .extended op2 _ rfl rfl (fun _ => rfl) (extendedTable_of (g := 9))
  | .unimplCb50To57 op2 => .extended op2 _ rfl rfl (fun _ => rfl) (extendedTable_of (g := 10))
  | .unimplCb58To5F op2 => .extended op2 _ rfl rfl (fun _ => rfl) (extendedTable_of (g := 11))
  | .unimplCb60To67 op2 => .extended op2 _ rfl rfl (fun _ => rfl) (extendedTable_of (g := 12))
  | .unimplCb68To6F op2 => .extended op2 _ rfl rfl (fun _ => rfl) (extendedTable_of (g := 13))
  | .unimplCb70To77 op2 => .extended op2 _ rfl rfl (fun _ => rfl) (extendedTable_of (g := 14))
  | .unimplCb78To7F op2 => .extended op2 _ rfl rfl (fun _ => rfl) (extendedTable_of (g := 15))
  | .unimplCb80To87 op2 => .extended op2 _ rfl rfl (fun _ => rfl) (extendedTable_of (g := 16))
  | .unimplCb88To8F op2 => .extended op2 _ rfl rfl (fun _ => rfl) (extendedTable_of (g := 17))
  | .unimplCb90To97 op2 => .extended op2 _ rfl rfl (fun _ => rfl) (extendedTable_of (g := 18))
  | .unimplCb98To9F op2 => .extended op2 _ rfl rfl (fun _ => rfl) (extendedTable_of (g := 19))
  | .unimplCbA0ToA7 op2 => .extended op2 _ rfl rfl (fun _ => rfl) (extendedTable_of (g := 20))
  | .unimplCbA8ToAF op2 => .extended op2 _ rfl rfl (fun _ => rfl) (extendedTable_of (g := 21))
  | .unimplCbB0ToB7 op2 => .extended op2 _ rfl rfl (fun _ => rfl) (extendedTable_of (g := 22))
  | .unimplCbB8ToBF op2 => .extended op2 _ rfl rfl (fun _ => rfl) (extendedTable_of (g := 23))
  | .unimplCbC0ToC7 op2 => .extended op2 _ rfl rfl (fun _ => rfl) (extendedTable_of (g := 24))
  | .unimplCbC8ToCF op2 => .extended op2 _ rfl rfl (fun _ => rfl) (extendedTable_of (g := 25))
  | .unimplCbD0ToD7 op2 => .extended op2 _ rfl rfl (fun _ => rfl) (extendedTable_of (g := 26))
  | .unimplCbD8ToDF op2 => .extended op2 _ rfl rfl (fun _ => rfl) (extendedTable_of (g := 27))
  | .unimplCbE0ToE7 op2 => .extended op2 _ rfl rfl (fun _ => rfl) (extendedTable_of (g := 28))
  | .unimplCbE8ToEF op2 => .extended op2 _ rfl rfl (fun _ => rfl) (extendedTable_of (g := 29))
  | .unimplCbF0ToF7 op2 => .extended op2 _ rfl rfl (fun _ => rfl) (extendedTable_of (g := 30))
  | .unimplCbF8ToFF op2 => .extended op2 _ rfl rfl (fun _ => rfl) (extendedTable_of (g := 31))

/-- The bytes of an instruction, by the format of its entry (R111). -/
theorem encode_cases (i : Instr) (hw : i.wellFormed = true) :
    (∃ op, encode i = [op] ∧ primaryTable op = .op i) ∨
    (∃ op make b1, encode i = [op, b1] ∧ primaryTable op = .imm8 make ∧ make b1 = i) ∨
    (∃ op make b1 b2, encode i = [op, b1, b2] ∧ primaryTable op = .imm16 make ∧ make b1 b2 = i) ∨
    i = .prefixByte ∨ ∃ op2, encode i = [prefixCode, op2] ∧ extendedTable op2 = i := by
  cases instrForm i with
  | ldRegImm8 r d8 => cases r <;> exact .inr (.inl ⟨_, _, _, rfl, rfl, rfl⟩)
  | ldAtHlD8 d8 => exact .inr (.inl ⟨_, _, _, rfl, rfl, rfl⟩)
  | ldPairImm16 p b1 b2 => cases p <;> exact .inr (.inr (.inl ⟨_, _, _, _, rfl, rfl, rfl⟩))
  | ldSpD16 b1 b2 => exact .inr (.inr (.inl ⟨_, _, _, _, rfl, rfl, rfl⟩))
  | ldRegReg r r' => cases r <;> cases r' <;> exact .inl ⟨_, rfl, rfl⟩
  | ldRegAtHl r => cases r <;> exact .inl ⟨_, rfl, rfl⟩
  | ldAtHlReg r => cases r <;> exact .inl ⟨_, rfl, rfl⟩
  | ldAtA16A b1 b2 => exact .inr (.inr (.inl ⟨_, _, _, _, rfl, rfl, rfl⟩))
  | ldHlSpR8 r8 => exact .inr (.inl ⟨_, _, _, rfl, rfl, rfl⟩)
  | aluReg op r => cases op <;> cases r <;> exact .inl ⟨_, rfl, rfl⟩
  | aluAtHl op => cases op <;> exact .inl ⟨_, rfl, rfl⟩
  | aluImm8 op d8 => cases op <;> exact .inr (.inl ⟨_, _, _, rfl, rfl, rfl⟩)
  | incReg r => cases r <;> exact .inl ⟨_, rfl, rfl⟩
  | decReg r => cases r <;> exact .inl ⟨_, rfl, rfl⟩
  | incAtHl | decAtHl | ret | di | ei => exact .inl ⟨_, rfl, rfl⟩
  | pushPair p => cases p <;> exact .inl ⟨_, rfl, rfl⟩
  | popPair p => cases p <;> exact .inl ⟨_, rfl, rfl⟩
  | callA16 b1 b2 => exact .inr (.inr (.inl ⟨_, _, _, _, rfl, rfl, rfl⟩))
  | prefixByte => exact .inr (.inr (.inr (.inl rfl)))
  | unimplemented op _ he ht => exact .inl ⟨op, he, ht⟩
  | extended op2 _ he hx hs h => exact .inr (.inr (.inr (.inr ⟨op2, he, h hw⟩)))

/-- What the bytes of an instruction are, where `p` is `cfg.PREFIX`, by the format of its entry (R111, R142). -/
inductive EncodedWith (p : Byte) (i : Instr) : List Byte → Prop where
  | op (o : Byte) (hp : o ≠ p) (ht : primaryTable o = .op i) : EncodedWith p i [o]
  | imm8 (o : Byte) (make : Byte → Instr) (b1 : Byte) (hp : o ≠ p) (ht : primaryTable o = .imm8 make)
      (hi : make b1 = i) : EncodedWith p i [o, b1]
  | imm16 (o : Byte) (make : Byte → Byte → Instr) (b1 b2 : Byte) (hp : o ≠ p) (ht : primaryTable o = .imm16 make)
      (hi : make b1 b2 = i) : EncodedWith p i [o, b1, b2]
  | alone (hi : .prefixByte = i) : EncodedWith p i [p]
  | extended (op2 : Byte) (hi : extendedTable op2 = i) : EncodedWith p i [p, op2]

/-- The bytes of an instruction outside the extended table are the same under every prefix. -/
theorem encodeWith_of_entry {p op : Byte} {i : Instr} {tl : List Byte} (he : encode i = op :: tl)
    (ht : primaryTable op ≠ .extended) (hs : i.selectedBy p = true) : encodeWith p i = op :: tl ∧ op ≠ p := by
  have ho : i.opcode = op := by unfold Instr.opcode; rw [he]; rfl
  have hn : op ≠ prefixCode := fun h => ht (primaryTable_extended.2 h)
  unfold Instr.selectedBy at hs
  rw [ho] at hs
  unfold encodeWith
  rw [ho, if_neg hn]
  exact ⟨he, by simpa [hn] using hs⟩

/-- Every selected instruction is encoded by its format. -/
theorem encodedWith (p : Byte) (i : Instr) (hw : i.wellFormed = true) (hs : i.selectedBy p = true) :
    EncodedWith p i (encodeWith p i) := by
  rcases encode_cases i hw with ⟨op, he, ht⟩ | ⟨op, mk, b1, he, ht, hi⟩ | ⟨op, mk, b1, b2, he, ht, hi⟩ | hp |
    ⟨op2, he, hi⟩
  · obtain ⟨h, hp⟩ := encodeWith_of_entry he (by rw [ht]; nofun) hs
    rw [h]
    exact .op op hp ht
  · obtain ⟨h, hp⟩ := encodeWith_of_entry he (by rw [ht]; nofun) hs
    rw [h]
    exact .imm8 op mk b1 hp ht hi
  · obtain ⟨h, hp⟩ := encodeWith_of_entry he (by rw [ht]; nofun) hs
    rw [h]
    exact .imm16 op mk b1 b2 hp ht hi
  · subst hp
    exact .alone rfl
  · have ho : i.opcode = prefixCode := by unfold Instr.opcode; rw [he]; rfl
    unfold encodeWith
    rw [if_pos ho, he]
    exact .extended op2 hi

/-- At the default prefix the encoding is the table's, and every instruction is selected. -/
theorem encodeWith_default (i : Instr) : encodeWith prefixCode i = encode i ∧ i.selectedBy prefixCode = true := by
  unfold encodeWith Instr.selectedBy
  by_cases h : i.opcode = prefixCode
  · rw [if_pos h]
    refine ⟨?_, by simp [h]⟩
    have hne : encode i ≠ [] := by cases i <;> nofun
    unfold Instr.opcode at h
    cases he : encode i with
    | nil => exact absurd he hne
    | cons o tl => rw [he] at h; rw [← h]; rfl
  · rw [if_neg h]
    exact ⟨rfl, by simp [h]⟩

/-! ## The opcode byte of each form (R111) -/

theorem opcode_ldRegImm8 (r : Reg8) (d8 : Byte) : (Instr.ldRegImm8 r d8).opcode = 0b00#2 ++ r.code ++ 0b110#3 := by
  cases r <;> rfl
theorem opcode_ldPairImm16 (p : Pair) (b1 b2 : Byte) :
    (Instr.ldPairImm16 p b1 b2).opcode = 0b00#2 ++ p.code ++ 0b0001#4 := by cases p <;> rfl
theorem opcode_ldRegReg (r r' : Reg8) : (Instr.ldRegReg r r').opcode = 0b01#2 ++ r.code ++ r'.code := by
  cases r <;> cases r' <;> rfl
theorem opcode_ldRegAtHl (r : Reg8) : (Instr.ldRegAtHl r).opcode = 0b01#2 ++ r.code ++ 0b110#3 := by cases r <;> rfl
theorem opcode_ldAtHlReg (r : Reg8) : (Instr.ldAtHlReg r).opcode = 0b01#2 ++ 0b110#3 ++ r.code := by cases r <;> rfl
theorem opcode_aluReg (op : AluOp) (r : Reg8) : (Instr.aluReg op r).opcode = 0b10#2 ++ op.code ++ r.code := by
  cases op <;> cases r <;> rfl
theorem opcode_aluAtHl (op : AluOp) : (Instr.aluAtHl op).opcode = 0b10#2 ++ op.code ++ 0b110#3 := by cases op <;> rfl
theorem opcode_aluImm8 (op : AluOp) (d8 : Byte) : (Instr.aluImm8 op d8).opcode = 0b11#2 ++ op.code ++ 0b110#3 := by
  cases op <;> rfl
theorem opcode_incReg (r : Reg8) : (Instr.incReg r).opcode = 0b00#2 ++ r.code ++ 0b100#3 := by cases r <;> rfl
theorem opcode_decReg (r : Reg8) : (Instr.decReg r).opcode = 0b00#2 ++ r.code ++ 0b101#3 := by cases r <;> rfl
theorem opcode_pushPair (p : Pair) : (Instr.pushPair p).opcode = 0b11#2 ++ p.code ++ 0b0101#4 := by cases p <;> rfl
theorem opcode_popPair (p : Pair) : (Instr.popPair p).opcode = 0b11#2 ++ p.code ++ 0b0001#4 := by cases p <;> rfl

theorem storeAddresses_pushPair (p : Pair) (s : State) : storeAddresses (Instr.pushPair p) s = [s.sp - 1, s.sp - 2] := by
  cases p <;> rfl
theorem storeAddresses_ldAtHlReg (r : Reg8) (s : State) : storeAddresses (Instr.ldAtHlReg r) s = [s.getPair .hl] := by
  cases r <;> rfl

/-! ## `exec` of each form -/

variable (s : State)

theorem exec_ldRegImm8 (r : Reg8) (d8 : Byte) : exec (Instr.ldRegImm8 r d8) s = loadImm8 r d8 s := by cases r <;> rfl
theorem exec_ldPairImm16 (p : Pair) (b1 b2 : Byte) : exec (Instr.ldPairImm16 p b1 b2) s = loadPairImm16 p b1 b2 s := by
  cases p <;> rfl
theorem exec_ldRegReg (r r' : Reg8) : exec (Instr.ldRegReg r r') s = loadReg r r' s := by cases r <;> cases r' <;> rfl
theorem exec_ldRegAtHl (r : Reg8) : exec (Instr.ldRegAtHl r) s = loadAtHl r s := by cases r <;> rfl
theorem exec_ldAtHlReg (r : Reg8) : exec (Instr.ldAtHlReg r) s = storeReg r s := by cases r <;> rfl
theorem exec_aluReg (op : AluOp) (r : Reg8) : exec (Instr.aluReg op r) s = aluReg op r s := by
  cases op <;> cases r <;> rfl
theorem exec_aluAtHl (op : AluOp) : exec (Instr.aluAtHl op) s = aluAtHl op s := by cases op <;> rfl
theorem exec_aluImm8 (op : AluOp) (d8 : Byte) : exec (Instr.aluImm8 op d8) s = aluImm8 op d8 s := by cases op <;> rfl
theorem exec_incReg (r : Reg8) : exec (Instr.incReg r) s = stepReg incOut r s := by cases r <;> rfl
theorem exec_decReg (r : Reg8) : exec (Instr.decReg r) s = stepReg (decOut s.cfg) r s := by cases r <;> rfl
theorem exec_pushPair (p : Pair) : exec (Instr.pushPair p) s = pushPair (0b11#2 ++ p.code ++ 0b0101#4) p s := by
  cases p <;> rfl
theorem exec_popPair (p : Pair) : exec (Instr.popPair p) s = popPair p s := by cases p <;> rfl

/-- Every entry of the extended table raises its condition (R145). -/
theorem dispatchExtended_eq (op2 : Byte) : dispatchExtended op2 s = raiseUnimplementedExtended op2 s := by
  unfold dispatchExtended
  split <;> rfl

/-- The byte that selects the extended table, by what PC reads as (R143). -/
theorem exec_prefixByte : exec .prefixByte s = match s.lookup s.pc with
    | .byte v => raiseUnimplementedExtended v { s.tick 1 with pc := s.pc + 1 }
    | .draw => raiseUnimplementedExtended (Config.draw s.draws)
        { State.tick { s with draws := s.draws + 1 } 1 with pc := s.pc + 1 }
    | .unmapped => .next (takeCondition (.unmappedAddress s.pc .read) s) := by
  show execPrefixByte s = _
  unfold execPrefixByte
  rw [fetch8_eq]
  cases s.lookup s.pc <;> first | exact dispatchExtended_eq _ _ | rfl

end Sys2Proof.Machine
end

