-- ==== Sys2Proof/Laws/Flags.lean ====
section
/-! SUPPORT. The flag formulas of R8 and R191, and the sign extension of R6, as facts about numbers. -/

namespace Sys2Proof.Machine

theorem hcAdd_eq (a b : Byte) : hcAdd a b = decide (16 ≤ a.toNat % 16 + b.toNat % 16) := by
  have ha : a.toNat &&& 0xF = a.toNat % 16 := Nat.and_two_pow_sub_one_eq_mod _ 4
  have hb : b.toNat &&& 0xF = b.toNat % 16 := Nat.and_two_pow_sub_one_eq_mod _ 4
  unfold hcAdd
  rw [ha, hb]
  have : ∀ n < 31, (n &&& 0x10 == 0x10) = decide (16 ≤ n) := by decide
  exact this _ (by omega)

theorem cAdd_eq (a b : Byte) : cAdd a b = decide (256 ≤ a.toNat + b.toNat) := by
  unfold cAdd
  have hn : a.toNat + b.toNat < 511 := by have ha := a.isLt; have hb := b.isLt; omega
  generalize a.toNat + b.toNat = n at *
  have h8 : n &&& 2 ^ 8 = n / 2 ^ 8 % 2 * 2 ^ 8 := by
    rw [Nat.and_two_pow]
    congr 1
    rw [Nat.testBit_eq_decide_div_mod_eq]
    rcases Nat.mod_two_eq_zero_or_one (n / 2 ^ 8) with h | h <;> rw [h] <;> rfl
  rw [show (0x100 : Nat) = 2 ^ 8 from rfl, h8, Bool.eq_iff_iff]
  simp
  omega

theorem sext16_eq (v : Byte) : sext16 v = BitVec.ofNat 16 (if v.toNat < 128 then v.toNat else v.toNat + 0xFF00) := by
  revert v; decide

theorem isZero_eq (v : Byte) : isZero v = decide (v = 0) := by unfold isZero; exact Bool.eq_iff_iff.2 (by simp)

/-- The default half-borrow formula (R191, decision D5). -/
theorem addShaped_eq (a b : Byte) : FlagFormula.addShaped.eval a b = decide (16 ≤ a.toNat % 16 + b.toNat % 16) := hcAdd_eq a b

theorem sub_eq_zero_byte (a b : Byte) : (a - b = 0) ↔ a = b := by
  constructor
  · intro h; have := BitVec.sub_add_cancel a b; rw [h] at this; simpa using this.symm
  · rintro rfl; simp

end Sys2Proof.Machine
end

