-- ==== Sys2Proof/Laws/PerInstr.lean ====
section
/-! SUPPORT. One statement about every instruction as a piece of text, and its lemma per constructor: the format of its
encoding is the one its opcode byte selects (R110, R111). -/

namespace Sys2Proof.Laws

/-- The opcode byte selects an entry whose format fits the bytes of the instruction. -/
def EncodingForm.Statement (i : Instr) : Prop :=
  match primaryTable i.opcode with
  | .op j => encode i = [i.opcode] ∧ j = i
  | .imm8 _ => (encode i).length = 2
  | .imm16 _ => (encode i).length = 3
  | .extended => i.opcode = prefixCode ∧ (encode i).length ≤ 2

theorem EncodingForm.of_op {i : Instr} (he : primaryTable i.opcode = .op i) (hb : encode i = [i.opcode]) :
    EncodingForm.Statement i := by
  simp only [EncodingForm.Statement, he]
  exact ⟨hb, trivial⟩

theorem EncodingForm.of_imm8 {i : Instr} {make : Byte → Instr} (he : primaryTable i.opcode = .imm8 make)
    (hb : (encode i).length = 2) : EncodingForm.Statement i := by
  simp only [EncodingForm.Statement, he]
  exact hb

theorem EncodingForm.of_imm16 {i : Instr} {make : Byte → Byte → Instr} (he : primaryTable i.opcode = .imm16 make)
    (hb : (encode i).length = 3) : EncodingForm.Statement i := by
  simp only [EncodingForm.Statement, he]
  exact hb

theorem EncodingForm.of_extended {i : Instr} (he : primaryTable i.opcode = .extended)
    (ho : i.opcode = prefixCode) (hb : (encode i).length ≤ 2) : EncodingForm.Statement i := by
  simp only [EncodingForm.Statement, he]
  exact ⟨ho, hb⟩

theorem EncodingForm.unimpl00 : EncodingForm.Statement .unimpl00 :=
  EncodingForm.of_op primaryTable_00 rfl
theorem EncodingForm.ldBcD16 (b1 b2 : Byte) : EncodingForm.Statement (.ldBcD16 b1 b2) :=
  EncodingForm.of_imm16 primaryTable_01 rfl
theorem EncodingForm.unimpl02 : EncodingForm.Statement .unimpl02 :=
  EncodingForm.of_op primaryTable_02 rfl
theorem EncodingForm.unimpl03 : EncodingForm.Statement .unimpl03 :=
  EncodingForm.of_op primaryTable_03 rfl
theorem EncodingForm.incB : EncodingForm.Statement .incB :=
  EncodingForm.of_op primaryTable_04 rfl
theorem EncodingForm.decB : EncodingForm.Statement .decB :=
  EncodingForm.of_op primaryTable_05 rfl
theorem EncodingForm.ldBD8 (d8 : Byte) : EncodingForm.Statement (.ldBD8 d8) :=
  EncodingForm.of_imm8 primaryTable_06 rfl
theorem EncodingForm.unimpl07 : EncodingForm.Statement .unimpl07 :=
  EncodingForm.of_op primaryTable_07 rfl
theorem EncodingForm.unimpl08 : EncodingForm.Statement .unimpl08 :=
  EncodingForm.of_op primaryTable_08 rfl
theorem EncodingForm.unimpl09 : EncodingForm.Statement .unimpl09 :=
  EncodingForm.of_op primaryTable_09 rfl
theorem EncodingForm.unimpl0A : EncodingForm.Statement .unimpl0A :=
  EncodingForm.of_op primaryTable_0A rfl
theorem EncodingForm.unimpl0B : EncodingForm.Statement .unimpl0B :=
  EncodingForm.of_op primaryTable_0B rfl
theorem EncodingForm.incC : EncodingForm.Statement .incC :=
  EncodingForm.of_op primaryTable_0C rfl
theorem EncodingForm.decC : EncodingForm.Statement .decC :=
  EncodingForm.of_op primaryTable_0D rfl
theorem EncodingForm.ldCD8 (d8 : Byte) : EncodingForm.Statement (.ldCD8 d8) :=
  EncodingForm.of_imm8 primaryTable_0E rfl
theorem EncodingForm.unimpl0F : EncodingForm.Statement .unimpl0F :=
  EncodingForm.of_op primaryTable_0F rfl
theorem EncodingForm.unimpl10 : EncodingForm.Statement .unimpl10 :=
  EncodingForm.of_op primaryTable_10 rfl
theorem EncodingForm.ldDeD16 (b1 b2 : Byte) : EncodingForm.Statement (.ldDeD16 b1 b2) :=
  EncodingForm.of_imm16 primaryTable_11 rfl
theorem EncodingForm.unimpl12 : EncodingForm.Statement .unimpl12 :=
  EncodingForm.of_op primaryTable_12 rfl
theorem EncodingForm.unimpl13 : EncodingForm.Statement .unimpl13 :=
  EncodingForm.of_op primaryTable_13 rfl
theorem EncodingForm.incD : EncodingForm.Statement .incD :=
  EncodingForm.of_op primaryTable_14 rfl
theorem EncodingForm.decD : EncodingForm.Statement .decD :=
  EncodingForm.of_op primaryTable_15 rfl
theorem EncodingForm.ldDD8 (d8 : Byte) : EncodingForm.Statement (.ldDD8 d8) :=
  EncodingForm.of_imm8 primaryTable_16 rfl
theorem EncodingForm.unimpl17 : EncodingForm.Statement .unimpl17 :=
  EncodingForm.of_op primaryTable_17 rfl
theorem EncodingForm.unimpl18 : EncodingForm.Statement .unimpl18 :=
  EncodingForm.of_op primaryTable_18 rfl
theorem EncodingForm.unimpl19 : EncodingForm.Statement .unimpl19 :=
  EncodingForm.of_op primaryTable_19 rfl
theorem EncodingForm.unimpl1A : EncodingForm.Statement .unimpl1A :=
  EncodingForm.of_op primaryTable_1A rfl
theorem EncodingForm.unimpl1B : EncodingForm.Statement .unimpl1B :=
  EncodingForm.of_op primaryTable_1B rfl
theorem EncodingForm.incE : EncodingForm.Statement .incE :=
  EncodingForm.of_op primaryTable_1C rfl
theorem EncodingForm.decE : EncodingForm.Statement .decE :=
  EncodingForm.of_op primaryTable_1D rfl
theorem EncodingForm.ldED8 (d8 : Byte) : EncodingForm.Statement (.ldED8 d8) :=
  EncodingForm.of_imm8 primaryTable_1E rfl
theorem EncodingForm.unimpl1F : EncodingForm.Statement .unimpl1F :=
  EncodingForm.of_op primaryTable_1F rfl
theorem EncodingForm.unimpl20 : EncodingForm.Statement .unimpl20 :=
  EncodingForm.of_op primaryTable_20 rfl
theorem EncodingForm.ldHlD16 (b1 b2 : Byte) : EncodingForm.Statement (.ldHlD16 b1 b2) :=
  EncodingForm.of_imm16 primaryTable_21 rfl
theorem EncodingForm.unimpl22 : EncodingForm.Statement .unimpl22 :=
  EncodingForm.of_op primaryTable_22 rfl
theorem EncodingForm.unimpl23 : EncodingForm.Statement .unimpl23 :=
  EncodingForm.of_op primaryTable_23 rfl
theorem EncodingForm.incH : EncodingForm.Statement .incH :=
  EncodingForm.of_op primaryTable_24 rfl
theorem EncodingForm.decH : EncodingForm.Statement .decH :=
  EncodingForm.of_op primaryTable_25 rfl
theorem EncodingForm.ldHD8 (d8 : Byte) : EncodingForm.Statement (.ldHD8 d8) :=
  EncodingForm.of_imm8 primaryTable_26 rfl
theorem EncodingForm.unimpl27 : EncodingForm.Statement .unimpl27 :=
  EncodingForm.of_op primaryTable_27 rfl
theorem EncodingForm.unimpl28 : EncodingForm.Statement .unimpl28 :=
  EncodingForm.of_op primaryTable_28 rfl
theorem EncodingForm.unimpl29 : EncodingForm.Statement .unimpl29 :=
  EncodingForm.of_op primaryTable_29 rfl
theorem EncodingForm.unimpl2A : EncodingForm.Statement .unimpl2A :=
  EncodingForm.of_op primaryTable_2A rfl
theorem EncodingForm.unimpl2B : EncodingForm.Statement .unimpl2B :=
  EncodingForm.of_op primaryTable_2B rfl
theorem EncodingForm.incL : EncodingForm.Statement .incL :=
  EncodingForm.of_op primaryTable_2C rfl
theorem EncodingForm.decL : EncodingForm.Statement .decL :=
  EncodingForm.of_op primaryTable_2D rfl
theorem EncodingForm.ldLD8 (d8 : Byte) : EncodingForm.Statement (.ldLD8 d8) :=
  EncodingForm.of_imm8 primaryTable_2E rfl
theorem EncodingForm.unimpl2F : EncodingForm.Statement .unimpl2F :=
  EncodingForm.of_op primaryTable_2F rfl
theorem EncodingForm.unimpl30 : EncodingForm.Statement .unimpl30 :=
  EncodingForm.of_op primaryTable_30 rfl
theorem EncodingForm.ldSpD16 (b1 b2 : Byte) : EncodingForm.Statement (.ldSpD16 b1 b2) :=
  EncodingForm.of_imm16 primaryTable_31 rfl
theorem EncodingForm.unimpl32 : EncodingForm.Statement .unimpl32 :=
  EncodingForm.of_op primaryTable_32 rfl
theorem EncodingForm.unimpl33 : EncodingForm.Statement .unimpl33 :=
  EncodingForm.of_op primaryTable_33 rfl
theorem EncodingForm.incAtHl : EncodingForm.Statement .incAtHl :=
  EncodingForm.of_op primaryTable_34 rfl
theorem EncodingForm.decAtHl : EncodingForm.Statement .decAtHl :=
  EncodingForm.of_op primaryTable_35 rfl
theorem EncodingForm.ldAtHlD8 (d8 : Byte) : EncodingForm.Statement (.ldAtHlD8 d8) :=
  EncodingForm.of_imm8 primaryTable_36 rfl
theorem EncodingForm.unimpl37 : EncodingForm.Statement .unimpl37 :=
  EncodingForm.of_op primaryTable_37 rfl
theorem EncodingForm.unimpl38 : EncodingForm.Statement .unimpl38 :=
  EncodingForm.of_op primaryTable_38 rfl
theorem EncodingForm.unimpl39 : EncodingForm.Statement .unimpl39 :=
  EncodingForm.of_op primaryTable_39 rfl
theorem EncodingForm.unimpl3A : EncodingForm.Statement .unimpl3A :=
  EncodingForm.of_op primaryTable_3A rfl
theorem EncodingForm.unimpl3B : EncodingForm.Statement .unimpl3B :=
  EncodingForm.of_op primaryTable_3B rfl
theorem EncodingForm.incA : EncodingForm.Statement .incA :=
  EncodingForm.of_op primaryTable_3C rfl
theorem EncodingForm.decA : EncodingForm.Statement .decA :=
  EncodingForm.of_op primaryTable_3D rfl
theorem EncodingForm.ldAD8 (d8 : Byte) : EncodingForm.Statement (.ldAD8 d8) :=
  EncodingForm.of_imm8 primaryTable_3E rfl
theorem EncodingForm.unimpl3F : EncodingForm.Statement .unimpl3F :=
  EncodingForm.of_op primaryTable_3F rfl
theorem EncodingForm.ldBB : EncodingForm.Statement .ldBB :=
  EncodingForm.of_op primaryTable_40 rfl
theorem EncodingForm.ldBC : EncodingForm.Statement .ldBC :=
  EncodingForm.of_op primaryTable_41 rfl
theorem EncodingForm.ldBD : EncodingForm.Statement .ldBD :=
  EncodingForm.of_op primaryTable_42 rfl
theorem EncodingForm.ldBE : EncodingForm.Statement .ldBE :=
  EncodingForm.of_op primaryTable_43 rfl
theorem EncodingForm.ldBH : EncodingForm.Statement .ldBH :=
  EncodingForm.of_op primaryTable_44 rfl
theorem EncodingForm.ldBL : EncodingForm.Statement .ldBL :=
  EncodingForm.of_op primaryTable_45 rfl
theorem EncodingForm.ldBAtHl : EncodingForm.Statement .ldBAtHl :=
  EncodingForm.of_op primaryTable_46 rfl
theorem EncodingForm.ldBA : EncodingForm.Statement .ldBA :=
  EncodingForm.of_op primaryTable_47 rfl
theorem EncodingForm.ldCB : EncodingForm.Statement .ldCB :=
  EncodingForm.of_op primaryTable_48 rfl
theorem EncodingForm.ldCC : EncodingForm.Statement .ldCC :=
  EncodingForm.of_op primaryTable_49 rfl
theorem EncodingForm.ldCD : EncodingForm.Statement .ldCD :=
  EncodingForm.of_op primaryTable_4A rfl
theorem EncodingForm.ldCE : EncodingForm.Statement .ldCE :=
  EncodingForm.of_op primaryTable_4B rfl
theorem EncodingForm.ldCH : EncodingForm.Statement .ldCH :=
  EncodingForm.of_op primaryTable_4C rfl
theorem EncodingForm.ldCL : EncodingForm.Statement .ldCL :=
  EncodingForm.of_op primaryTable_4D rfl
theorem EncodingForm.ldCAtHl : EncodingForm.Statement .ldCAtHl :=
  EncodingForm.of_op primaryTable_4E rfl
theorem EncodingForm.ldCA : EncodingForm.Statement .ldCA :=
  EncodingForm.of_op primaryTable_4F rfl
theorem EncodingForm.ldDB : EncodingForm.Statement .ldDB :=
  EncodingForm.of_op primaryTable_50 rfl
theorem EncodingForm.ldDC : EncodingForm.Statement .ldDC :=
  EncodingForm.of_op primaryTable_51 rfl
theorem EncodingForm.ldDD : EncodingForm.Statement .ldDD :=
  EncodingForm.of_op primaryTable_52 rfl
theorem EncodingForm.ldDE : EncodingForm.Statement .ldDE :=
  EncodingForm.of_op primaryTable_53 rfl
theorem EncodingForm.ldDH : EncodingForm.Statement .ldDH :=
  EncodingForm.of_op primaryTable_54 rfl
theorem EncodingForm.ldDL : EncodingForm.Statement .ldDL :=
  EncodingForm.of_op primaryTable_55 rfl
theorem EncodingForm.ldDAtHl : EncodingForm.Statement .ldDAtHl :=
  EncodingForm.of_op primaryTable_56 rfl
theorem EncodingForm.ldDA : EncodingForm.Statement .ldDA :=
  EncodingForm.of_op primaryTable_57 rfl
theorem EncodingForm.ldEB : EncodingForm.Statement .ldEB :=
  EncodingForm.of_op primaryTable_58 rfl
theorem EncodingForm.ldEC : EncodingForm.Statement .ldEC :=
  EncodingForm.of_op primaryTable_59 rfl
theorem EncodingForm.ldED : EncodingForm.Statement .ldED :=
  EncodingForm.of_op primaryTable_5A rfl
theorem EncodingForm.ldEE : EncodingForm.Statement .ldEE :=
  EncodingForm.of_op primaryTable_5B rfl
theorem EncodingForm.ldEH : EncodingForm.Statement .ldEH :=
  EncodingForm.of_op primaryTable_5C rfl
theorem EncodingForm.ldEL : EncodingForm.Statement .ldEL :=
  EncodingForm.of_op primaryTable_5D rfl
theorem EncodingForm.ldEAtHl : EncodingForm.Statement .ldEAtHl :=
  EncodingForm.of_op primaryTable_5E rfl
theorem EncodingForm.ldEA : EncodingForm.Statement .ldEA :=
  EncodingForm.of_op primaryTable_5F rfl
theorem EncodingForm.ldHB : EncodingForm.Statement .ldHB :=
  EncodingForm.of_op primaryTable_60 rfl
theorem EncodingForm.ldHC : EncodingForm.Statement .ldHC :=
  EncodingForm.of_op primaryTable_61 rfl
theorem EncodingForm.ldHD : EncodingForm.Statement .ldHD :=
  EncodingForm.of_op primaryTable_62 rfl
theorem EncodingForm.ldHE : EncodingForm.Statement .ldHE :=
  EncodingForm.of_op primaryTable_63 rfl
theorem EncodingForm.ldHH : EncodingForm.Statement .ldHH :=
  EncodingForm.of_op primaryTable_64 rfl
theorem EncodingForm.ldHL : EncodingForm.Statement .ldHL :=
  EncodingForm.of_op primaryTable_65 rfl
theorem EncodingForm.ldHAtHl : EncodingForm.Statement .ldHAtHl :=
  EncodingForm.of_op primaryTable_66 rfl
theorem EncodingForm.ldHA : EncodingForm.Statement .ldHA :=
  EncodingForm.of_op primaryTable_67 rfl
theorem EncodingForm.ldLB : EncodingForm.Statement .ldLB :=
  EncodingForm.of_op primaryTable_68 rfl
theorem EncodingForm.ldLC : EncodingForm.Statement .ldLC :=
  EncodingForm.of_op primaryTable_69 rfl
theorem EncodingForm.ldLD : EncodingForm.Statement .ldLD :=
  EncodingForm.of_op primaryTable_6A rfl
theorem EncodingForm.ldLE : EncodingForm.Statement .ldLE :=
  EncodingForm.of_op primaryTable_6B rfl
theorem EncodingForm.ldLH : EncodingForm.Statement .ldLH :=
  EncodingForm.of_op primaryTable_6C rfl
theorem EncodingForm.ldLL : EncodingForm.Statement .ldLL :=
  EncodingForm.of_op primaryTable_6D rfl
theorem EncodingForm.ldLAtHl : EncodingForm.Statement .ldLAtHl :=
  EncodingForm.of_op primaryTable_6E rfl
theorem EncodingForm.ldLA : EncodingForm.Statement .ldLA :=
  EncodingForm.of_op primaryTable_6F rfl
theorem EncodingForm.ldAtHlB : EncodingForm.Statement .ldAtHlB :=
  EncodingForm.of_op primaryTable_70 rfl
theorem EncodingForm.ldAtHlC : EncodingForm.Statement .ldAtHlC :=
  EncodingForm.of_op primaryTable_71 rfl
theorem EncodingForm.ldAtHlD : EncodingForm.Statement .ldAtHlD :=
  EncodingForm.of_op primaryTable_72 rfl
theorem EncodingForm.ldAtHlE : EncodingForm.Statement .ldAtHlE :=
  EncodingForm.of_op primaryTable_73 rfl
theorem EncodingForm.ldAtHlH : EncodingForm.Statement .ldAtHlH :=
  EncodingForm.of_op primaryTable_74 rfl
theorem EncodingForm.ldAtHlL : EncodingForm.Statement .ldAtHlL :=
  EncodingForm.of_op primaryTable_75 rfl
theorem EncodingForm.unimpl76 : EncodingForm.Statement .unimpl76 :=
  EncodingForm.of_op primaryTable_76 rfl
theorem EncodingForm.ldAtHlA : EncodingForm.Statement .ldAtHlA :=
  EncodingForm.of_op primaryTable_77 rfl
theorem EncodingForm.ldAB : EncodingForm.Statement .ldAB :=
  EncodingForm.of_op primaryTable_78 rfl
theorem EncodingForm.ldAC : EncodingForm.Statement .ldAC :=
  EncodingForm.of_op primaryTable_79 rfl
theorem EncodingForm.ldAD : EncodingForm.Statement .ldAD :=
  EncodingForm.of_op primaryTable_7A rfl
theorem EncodingForm.ldAE : EncodingForm.Statement .ldAE :=
  EncodingForm.of_op primaryTable_7B rfl
theorem EncodingForm.ldAH : EncodingForm.Statement .ldAH :=
  EncodingForm.of_op primaryTable_7C rfl
theorem EncodingForm.ldAL : EncodingForm.Statement .ldAL :=
  EncodingForm.of_op primaryTable_7D rfl
theorem EncodingForm.ldAAtHl : EncodingForm.Statement .ldAAtHl :=
  EncodingForm.of_op primaryTable_7E rfl
theorem EncodingForm.ldAA : EncodingForm.Statement .ldAA :=
  EncodingForm.of_op primaryTable_7F rfl
theorem EncodingForm.addAB : EncodingForm.Statement .addAB :=
  EncodingForm.of_op primaryTable_80 rfl
theorem EncodingForm.addAC : EncodingForm.Statement .addAC :=
  EncodingForm.of_op primaryTable_81 rfl
theorem EncodingForm.addAD : EncodingForm.Statement .addAD :=
  EncodingForm.of_op primaryTable_82 rfl
theorem EncodingForm.addAE : EncodingForm.Statement .addAE :=
  EncodingForm.of_op primaryTable_83 rfl
theorem EncodingForm.addAH : EncodingForm.Statement .addAH :=
  EncodingForm.of_op primaryTable_84 rfl
theorem EncodingForm.addAL : EncodingForm.Statement .addAL :=
  EncodingForm.of_op primaryTable_85 rfl
theorem EncodingForm.addAAtHl : EncodingForm.Statement .addAAtHl :=
  EncodingForm.of_op primaryTable_86 rfl
theorem EncodingForm.addAA : EncodingForm.Statement .addAA :=
  EncodingForm.of_op primaryTable_87 rfl
theorem EncodingForm.unimpl88 : EncodingForm.Statement .unimpl88 :=
  EncodingForm.of_op primaryTable_88 rfl
theorem EncodingForm.unimpl89 : EncodingForm.Statement .unimpl89 :=
  EncodingForm.of_op primaryTable_89 rfl
theorem EncodingForm.unimpl8A : EncodingForm.Statement .unimpl8A :=
  EncodingForm.of_op primaryTable_8A rfl
theorem EncodingForm.unimpl8B : EncodingForm.Statement .unimpl8B :=
  EncodingForm.of_op primaryTable_8B rfl
theorem EncodingForm.unimpl8C : EncodingForm.Statement .unimpl8C :=
  EncodingForm.of_op primaryTable_8C rfl
theorem EncodingForm.unimpl8D : EncodingForm.Statement .unimpl8D :=
  EncodingForm.of_op primaryTable_8D rfl
theorem EncodingForm.unimpl8E : EncodingForm.Statement .unimpl8E :=
  EncodingForm.of_op primaryTable_8E rfl
theorem EncodingForm.unimpl8F : EncodingForm.Statement .unimpl8F :=
  EncodingForm.of_op primaryTable_8F rfl
theorem EncodingForm.subB : EncodingForm.Statement .subB :=
  EncodingForm.of_op primaryTable_90 rfl
theorem EncodingForm.subC : EncodingForm.Statement .subC :=
  EncodingForm.of_op primaryTable_91 rfl
theorem EncodingForm.subD : EncodingForm.Statement .subD :=
  EncodingForm.of_op primaryTable_92 rfl
theorem EncodingForm.subE : EncodingForm.Statement .subE :=
  EncodingForm.of_op primaryTable_93 rfl
theorem EncodingForm.subH : EncodingForm.Statement .subH :=
  EncodingForm.of_op primaryTable_94 rfl
theorem EncodingForm.subL : EncodingForm.Statement .subL :=
  EncodingForm.of_op primaryTable_95 rfl
theorem EncodingForm.subAtHl : EncodingForm.Statement .subAtHl :=
  EncodingForm.of_op primaryTable_96 rfl
theorem EncodingForm.subA : EncodingForm.Statement .subA :=
  EncodingForm.of_op primaryTable_97 rfl
theorem EncodingForm.unimpl98 : EncodingForm.Statement .unimpl98 :=
  EncodingForm.of_op primaryTable_98 rfl
theorem EncodingForm.unimpl99 : EncodingForm.Statement .unimpl99 :=
  EncodingForm.of_op primaryTable_99 rfl
theorem EncodingForm.unimpl9A : EncodingForm.Statement .unimpl9A :=
  EncodingForm.of_op primaryTable_9A rfl
theorem EncodingForm.unimpl9B : EncodingForm.Statement .unimpl9B :=
  EncodingForm.of_op primaryTable_9B rfl
theorem EncodingForm.unimpl9C : EncodingForm.Statement .unimpl9C :=
  EncodingForm.of_op primaryTable_9C rfl
theorem EncodingForm.unimpl9D : EncodingForm.Statement .unimpl9D :=
  EncodingForm.of_op primaryTable_9D rfl
theorem EncodingForm.unimpl9E : EncodingForm.Statement .unimpl9E :=
  EncodingForm.of_op primaryTable_9E rfl
theorem EncodingForm.unimpl9F : EncodingForm.Statement .unimpl9F :=
  EncodingForm.of_op primaryTable_9F rfl
theorem EncodingForm.andB : EncodingForm.Statement .andB :=
  EncodingForm.of_op primaryTable_A0 rfl
theorem EncodingForm.andC : EncodingForm.Statement .andC :=
  EncodingForm.of_op primaryTable_A1 rfl
theorem EncodingForm.andD : EncodingForm.Statement .andD :=
  EncodingForm.of_op primaryTable_A2 rfl
theorem EncodingForm.andE : EncodingForm.Statement .andE :=
  EncodingForm.of_op primaryTable_A3 rfl
theorem EncodingForm.andH : EncodingForm.Statement .andH :=
  EncodingForm.of_op primaryTable_A4 rfl
theorem EncodingForm.andL : EncodingForm.Statement .andL :=
  EncodingForm.of_op primaryTable_A5 rfl
theorem EncodingForm.andAtHl : EncodingForm.Statement .andAtHl :=
  EncodingForm.of_op primaryTable_A6 rfl
theorem EncodingForm.andA : EncodingForm.Statement .andA :=
  EncodingForm.of_op primaryTable_A7 rfl
theorem EncodingForm.xorB : EncodingForm.Statement .xorB :=
  EncodingForm.of_op primaryTable_A8 rfl
theorem EncodingForm.xorC : EncodingForm.Statement .xorC :=
  EncodingForm.of_op primaryTable_A9 rfl
theorem EncodingForm.xorD : EncodingForm.Statement .xorD :=
  EncodingForm.of_op primaryTable_AA rfl
theorem EncodingForm.xorE : EncodingForm.Statement .xorE :=
  EncodingForm.of_op primaryTable_AB rfl
theorem EncodingForm.xorH : EncodingForm.Statement .xorH :=
  EncodingForm.of_op primaryTable_AC rfl
theorem EncodingForm.xorL : EncodingForm.Statement .xorL :=
  EncodingForm.of_op primaryTable_AD rfl
theorem EncodingForm.xorAtHl : EncodingForm.Statement .xorAtHl :=
  EncodingForm.of_op primaryTable_AE rfl
theorem EncodingForm.xorA : EncodingForm.Statement .xorA :=
  EncodingForm.of_op primaryTable_AF rfl
theorem EncodingForm.orB : EncodingForm.Statement .orB :=
  EncodingForm.of_op primaryTable_B0 rfl
theorem EncodingForm.orC : EncodingForm.Statement .orC :=
  EncodingForm.of_op primaryTable_B1 rfl
theorem EncodingForm.orD : EncodingForm.Statement .orD :=
  EncodingForm.of_op primaryTable_B2 rfl
theorem EncodingForm.orE : EncodingForm.Statement .orE :=
  EncodingForm.of_op primaryTable_B3 rfl
theorem EncodingForm.orH : EncodingForm.Statement .orH :=
  EncodingForm.of_op primaryTable_B4 rfl
theorem EncodingForm.orL : EncodingForm.Statement .orL :=
  EncodingForm.of_op primaryTable_B5 rfl
theorem EncodingForm.orAtHl : EncodingForm.Statement .orAtHl :=
  EncodingForm.of_op primaryTable_B6 rfl
theorem EncodingForm.orA : EncodingForm.Statement .orA :=
  EncodingForm.of_op primaryTable_B7 rfl
theorem EncodingForm.cpB : EncodingForm.Statement .cpB :=
  EncodingForm.of_op primaryTable_B8 rfl
theorem EncodingForm.cpC : EncodingForm.Statement .cpC :=
  EncodingForm.of_op primaryTable_B9 rfl
theorem EncodingForm.cpD : EncodingForm.Statement .cpD :=
  EncodingForm.of_op primaryTable_BA rfl
theorem EncodingForm.cpE : EncodingForm.Statement .cpE :=
  EncodingForm.of_op primaryTable_BB rfl
theorem EncodingForm.cpH : EncodingForm.Statement .cpH :=
  EncodingForm.of_op primaryTable_BC rfl
theorem EncodingForm.cpL : EncodingForm.Statement .cpL :=
  EncodingForm.of_op primaryTable_BD rfl
theorem EncodingForm.cpAtHl : EncodingForm.Statement .cpAtHl :=
  EncodingForm.of_op primaryTable_BE rfl
theorem EncodingForm.cpA : EncodingForm.Statement .cpA :=
  EncodingForm.of_op primaryTable_BF rfl
theorem EncodingForm.unimplC0 : EncodingForm.Statement .unimplC0 :=
  EncodingForm.of_op primaryTable_C0 rfl
theorem EncodingForm.popBc : EncodingForm.Statement .popBc :=
  EncodingForm.of_op primaryTable_C1 rfl
theorem EncodingForm.unimplC2 : EncodingForm.Statement .unimplC2 :=
  EncodingForm.of_op primaryTable_C2 rfl
theorem EncodingForm.unimplC3 : EncodingForm.Statement .unimplC3 :=
  EncodingForm.of_op primaryTable_C3 rfl
theorem EncodingForm.unimplC4 : EncodingForm.Statement .unimplC4 :=
  EncodingForm.of_op primaryTable_C4 rfl
theorem EncodingForm.pushBc : EncodingForm.Statement .pushBc :=
  EncodingForm.of_op primaryTable_C5 rfl
theorem EncodingForm.addAD8 (d8 : Byte) : EncodingForm.Statement (.addAD8 d8) :=
  EncodingForm.of_imm8 primaryTable_C6 rfl
theorem EncodingForm.unimplC7 : EncodingForm.Statement .unimplC7 :=
  EncodingForm.of_op primaryTable_C7 rfl
theorem EncodingForm.unimplC8 : EncodingForm.Statement .unimplC8 :=
  EncodingForm.of_op primaryTable_C8 rfl
theorem EncodingForm.ret : EncodingForm.Statement .ret :=
  EncodingForm.of_op primaryTable_C9 rfl
theorem EncodingForm.unimplCA : EncodingForm.Statement .unimplCA :=
  EncodingForm.of_op primaryTable_CA rfl
theorem EncodingForm.prefixByte : EncodingForm.Statement .prefixByte :=
  EncodingForm.of_extended primaryTable_CB rfl (by decide)
theorem EncodingForm.unimplCC : EncodingForm.Statement .unimplCC :=
  EncodingForm.of_op primaryTable_CC rfl
theorem EncodingForm.callA16 (b1 b2 : Byte) : EncodingForm.Statement (.callA16 b1 b2) :=
  EncodingForm.of_imm16 primaryTable_CD rfl
theorem EncodingForm.unimplCE : EncodingForm.Statement .unimplCE :=
  EncodingForm.of_op primaryTable_CE rfl
theorem EncodingForm.unimplCF : EncodingForm.Statement .unimplCF :=
  EncodingForm.of_op primaryTable_CF rfl
theorem EncodingForm.unimplD0 : EncodingForm.Statement .unimplD0 :=
  EncodingForm.of_op primaryTable_D0 rfl
theorem EncodingForm.popDe : EncodingForm.Statement .popDe :=
  EncodingForm.of_op primaryTable_D1 rfl
theorem EncodingForm.unimplD2 : EncodingForm.Statement .unimplD2 :=
  EncodingForm.of_op primaryTable_D2 rfl
theorem EncodingForm.unimplD3 : EncodingForm.Statement .unimplD3 :=
  EncodingForm.of_op primaryTable_D3 rfl
theorem EncodingForm.unimplD4 : EncodingForm.Statement .unimplD4 :=
  EncodingForm.of_op primaryTable_D4 rfl
theorem EncodingForm.pushDe : EncodingForm.Statement .pushDe :=
  EncodingForm.of_op primaryTable_D5 rfl
theorem EncodingForm.subD8 (d8 : Byte) : EncodingForm.Statement (.subD8 d8) :=
  EncodingForm.of_imm8 primaryTable_D6 rfl
theorem EncodingForm.unimplD7 : EncodingForm.Statement .unimplD7 :=
  EncodingForm.of_op primaryTable_D7 rfl
theorem EncodingForm.unimplD8 : EncodingForm.Statement .unimplD8 :=
  EncodingForm.of_op primaryTable_D8 rfl
theorem EncodingForm.unimplD9 : EncodingForm.Statement .unimplD9 :=
  EncodingForm.of_op primaryTable_D9 rfl
theorem EncodingForm.unimplDA : EncodingForm.Statement .unimplDA :=
  EncodingForm.of_op primaryTable_DA rfl
theorem EncodingForm.unimplDB : EncodingForm.Statement .unimplDB :=
  EncodingForm.of_op primaryTable_DB rfl
theorem EncodingForm.unimplDC : EncodingForm.Statement .unimplDC :=
  EncodingForm.of_op primaryTable_DC rfl
theorem EncodingForm.unimplDD : EncodingForm.Statement .unimplDD :=
  EncodingForm.of_op primaryTable_DD rfl
theorem EncodingForm.unimplDE : EncodingForm.Statement .unimplDE :=
  EncodingForm.of_op primaryTable_DE rfl
theorem EncodingForm.unimplDF : EncodingForm.Statement .unimplDF :=
  EncodingForm.of_op primaryTable_DF rfl
theorem EncodingForm.unimplE0 : EncodingForm.Statement .unimplE0 :=
  EncodingForm.of_op primaryTable_E0 rfl
theorem EncodingForm.popHl : EncodingForm.Statement .popHl :=
  EncodingForm.of_op primaryTable_E1 rfl
theorem EncodingForm.unimplE2 : EncodingForm.Statement .unimplE2 :=
  EncodingForm.of_op primaryTable_E2 rfl
theorem EncodingForm.unimplE3 : EncodingForm.Statement .unimplE3 :=
  EncodingForm.of_op primaryTable_E3 rfl
theorem EncodingForm.unimplE4 : EncodingForm.Statement .unimplE4 :=
  EncodingForm.of_op primaryTable_E4 rfl
theorem EncodingForm.pushHl : EncodingForm.Statement .pushHl :=
  EncodingForm.of_op primaryTable_E5 rfl
theorem EncodingForm.andD8 (d8 : Byte) : EncodingForm.Statement (.andD8 d8) :=
  EncodingForm.of_imm8 primaryTable_E6 rfl
theorem EncodingForm.unimplE7 : EncodingForm.Statement .unimplE7 :=
  EncodingForm.of_op primaryTable_E7 rfl
theorem EncodingForm.unimplE8 : EncodingForm.Statement .unimplE8 :=
  EncodingForm.of_op primaryTable_E8 rfl
theorem EncodingForm.unimplE9 : EncodingForm.Statement .unimplE9 :=
  EncodingForm.of_op primaryTable_E9 rfl
theorem EncodingForm.ldAtA16A (b1 b2 : Byte) : EncodingForm.Statement (.ldAtA16A b1 b2) :=
  EncodingForm.of_imm16 primaryTable_EA rfl
theorem EncodingForm.unimplEB : EncodingForm.Statement .unimplEB :=
  EncodingForm.of_op primaryTable_EB rfl
theorem EncodingForm.unimplEC : EncodingForm.Statement .unimplEC :=
  EncodingForm.of_op primaryTable_EC rfl
theorem EncodingForm.unimplED : EncodingForm.Statement .unimplED :=
  EncodingForm.of_op primaryTable_ED rfl
theorem EncodingForm.xorD8 (d8 : Byte) : EncodingForm.Statement (.xorD8 d8) :=
  EncodingForm.of_imm8 primaryTable_EE rfl
theorem EncodingForm.unimplEF : EncodingForm.Statement .unimplEF :=
  EncodingForm.of_op primaryTable_EF rfl
theorem EncodingForm.unimplF0 : EncodingForm.Statement .unimplF0 :=
  EncodingForm.of_op primaryTable_F0 rfl
theorem EncodingForm.unimplF1 : EncodingForm.Statement .unimplF1 :=
  EncodingForm.of_op primaryTable_F1 rfl
theorem EncodingForm.unimplF2 : EncodingForm.Statement .unimplF2 :=
  EncodingForm.of_op primaryTable_F2 rfl
theorem EncodingForm.di : EncodingForm.Statement .di :=
  EncodingForm.of_op primaryTable_F3 rfl
theorem EncodingForm.unimplF4 : EncodingForm.Statement .unimplF4 :=
  EncodingForm.of_op primaryTable_F4 rfl
theorem EncodingForm.unimplF5 : EncodingForm.Statement .unimplF5 :=
  EncodingForm.of_op primaryTable_F5 rfl
theorem EncodingForm.orD8 (d8 : Byte) : EncodingForm.Statement (.orD8 d8) :=
  EncodingForm.of_imm8 primaryTable_F6 rfl
theorem EncodingForm.unimplF7 : EncodingForm.Statement .unimplF7 :=
  EncodingForm.of_op primaryTable_F7 rfl
theorem EncodingForm.ldHlSpR8 (r8 : Byte) : EncodingForm.Statement (.ldHlSpR8 r8) :=
  EncodingForm.of_imm8 primaryTable_F8 rfl
theorem EncodingForm.unimplF9 : EncodingForm.Statement .unimplF9 :=
  EncodingForm.of_op primaryTable_F9 rfl
theorem EncodingForm.unimplFA : EncodingForm.Statement .unimplFA :=
  EncodingForm.of_op primaryTable_FA rfl
theorem EncodingForm.ei : EncodingForm.Statement .ei :=
  EncodingForm.of_op primaryTable_FB rfl
theorem EncodingForm.unimplFC : EncodingForm.Statement .unimplFC :=
  EncodingForm.of_op primaryTable_FC rfl
theorem EncodingForm.unimplFD : EncodingForm.Statement .unimplFD :=
  EncodingForm.of_op primaryTable_FD rfl
theorem EncodingForm.cpD8 (d8 : Byte) : EncodingForm.Statement (.cpD8 d8) :=
  EncodingForm.of_imm8 primaryTable_FE rfl
theorem EncodingForm.unimplFF : EncodingForm.Statement .unimplFF :=
  EncodingForm.of_op primaryTable_FF rfl
theorem EncodingForm.unimplCb00To07 (op2 : Byte) : EncodingForm.Statement (.unimplCb00To07 op2) :=
  EncodingForm.of_extended primaryTable_CB rfl Nat.le.refl
theorem EncodingForm.unimplCb08To0F (op2 : Byte) : EncodingForm.Statement (.unimplCb08To0F op2) :=
  EncodingForm.of_extended primaryTable_CB rfl Nat.le.refl
theorem EncodingForm.unimplCb10To17 (op2 : Byte) : EncodingForm.Statement (.unimplCb10To17 op2) :=
  EncodingForm.of_extended primaryTable_CB rfl Nat.le.refl
theorem EncodingForm.unimplCb18To1F (op2 : Byte) : EncodingForm.Statement (.unimplCb18To1F op2) :=
  EncodingForm.of_extended primaryTable_CB rfl Nat.le.refl
theorem EncodingForm.unimplCb20To27 (op2 : Byte) : EncodingForm.Statement (.unimplCb20To27 op2) :=
  EncodingForm.of_extended primaryTable_CB rfl Nat.le.refl
theorem EncodingForm.unimplCb28To2F (op2 : Byte) : EncodingForm.Statement (.unimplCb28To2F op2) :=
  EncodingForm.of_extended primaryTable_CB rfl Nat.le.refl
theorem EncodingForm.unimplCb30To37 (op2 : Byte) : EncodingForm.Statement (.unimplCb30To37 op2) :=
  EncodingForm.of_extended primaryTable_CB rfl Nat.le.refl
theorem EncodingForm.unimplCb38To3F (op2 : Byte) : EncodingForm.Statement (.unimplCb38To3F op2) :=
  EncodingForm.of_extended primaryTable_CB rfl Nat.le.refl
theorem EncodingForm.unimplCb40To47 (op2 : Byte) : EncodingForm.Statement (.unimplCb40To47 op2) :=
  EncodingForm.of_extended primaryTable_CB rfl Nat.le.refl
theorem EncodingForm.unimplCb48To4F (op2 : Byte) : EncodingForm.Statement (.unimplCb48To4F op2) :=
  EncodingForm.of_extended primaryTable_CB rfl Nat.le.refl
theorem EncodingForm.unimplCb50To57 (op2 : Byte) : EncodingForm.Statement (.unimplCb50To57 op2) :=
  EncodingForm.of_extended primaryTable_CB rfl Nat.le.refl
theorem EncodingForm.unimplCb58To5F (op2 : Byte) : EncodingForm.Statement (.unimplCb58To5F op2) :=
  EncodingForm.of_extended primaryTable_CB rfl Nat.le.refl
theorem EncodingForm.unimplCb60To67 (op2 : Byte) : EncodingForm.Statement (.unimplCb60To67 op2) :=
  EncodingForm.of_extended primaryTable_CB rfl Nat.le.refl
theorem EncodingForm.unimplCb68To6F (op2 : Byte) : EncodingForm.Statement (.unimplCb68To6F op2) :=
  EncodingForm.of_extended primaryTable_CB rfl Nat.le.refl
theorem EncodingForm.unimplCb70To77 (op2 : Byte) : EncodingForm.Statement (.unimplCb70To77 op2) :=
  EncodingForm.of_extended primaryTable_CB rfl Nat.le.refl
theorem EncodingForm.unimplCb78To7F (op2 : Byte) : EncodingForm.Statement (.unimplCb78To7F op2) :=
  EncodingForm.of_extended primaryTable_CB rfl Nat.le.refl
theorem EncodingForm.unimplCb80To87 (op2 : Byte) : EncodingForm.Statement (.unimplCb80To87 op2) :=
  EncodingForm.of_extended primaryTable_CB rfl Nat.le.refl
theorem EncodingForm.unimplCb88To8F (op2 : Byte) : EncodingForm.Statement (.unimplCb88To8F op2) :=
  EncodingForm.of_extended primaryTable_CB rfl Nat.le.refl
theorem EncodingForm.unimplCb90To97 (op2 : Byte) : EncodingForm.Statement (.unimplCb90To97 op2) :=
  EncodingForm.of_extended primaryTable_CB rfl Nat.le.refl
theorem EncodingForm.unimplCb98To9F (op2 : Byte) : EncodingForm.Statement (.unimplCb98To9F op2) :=
  EncodingForm.of_extended primaryTable_CB rfl Nat.le.refl
theorem EncodingForm.unimplCbA0ToA7 (op2 : Byte) : EncodingForm.Statement (.unimplCbA0ToA7 op2) :=
  EncodingForm.of_extended primaryTable_CB rfl Nat.le.refl
theorem EncodingForm.unimplCbA8ToAF (op2 : Byte) : EncodingForm.Statement (.unimplCbA8ToAF op2) :=
  EncodingForm.of_extended primaryTable_CB rfl Nat.le.refl
theorem EncodingForm.unimplCbB0ToB7 (op2 : Byte) : EncodingForm.Statement (.unimplCbB0ToB7 op2) :=
  EncodingForm.of_extended primaryTable_CB rfl Nat.le.refl
theorem EncodingForm.unimplCbB8ToBF (op2 : Byte) : EncodingForm.Statement (.unimplCbB8ToBF op2) :=
  EncodingForm.of_extended primaryTable_CB rfl Nat.le.refl
theorem EncodingForm.unimplCbC0ToC7 (op2 : Byte) : EncodingForm.Statement (.unimplCbC0ToC7 op2) :=
  EncodingForm.of_extended primaryTable_CB rfl Nat.le.refl
theorem EncodingForm.unimplCbC8ToCF (op2 : Byte) : EncodingForm.Statement (.unimplCbC8ToCF op2) :=
  EncodingForm.of_extended primaryTable_CB rfl Nat.le.refl
theorem EncodingForm.unimplCbD0ToD7 (op2 : Byte) : EncodingForm.Statement (.unimplCbD0ToD7 op2) :=
  EncodingForm.of_extended primaryTable_CB rfl Nat.le.refl
theorem EncodingForm.unimplCbD8ToDF (op2 : Byte) : EncodingForm.Statement (.unimplCbD8ToDF op2) :=
  EncodingForm.of_extended primaryTable_CB rfl Nat.le.refl
theorem EncodingForm.unimplCbE0ToE7 (op2 : Byte) : EncodingForm.Statement (.unimplCbE0ToE7 op2) :=
  EncodingForm.of_extended primaryTable_CB rfl Nat.le.refl
theorem EncodingForm.unimplCbE8ToEF (op2 : Byte) : EncodingForm.Statement (.unimplCbE8ToEF op2) :=
  EncodingForm.of_extended primaryTable_CB rfl Nat.le.refl
theorem EncodingForm.unimplCbF0ToF7 (op2 : Byte) : EncodingForm.Statement (.unimplCbF0ToF7 op2) :=
  EncodingForm.of_extended primaryTable_CB rfl Nat.le.refl
theorem EncodingForm.unimplCbF8ToFF (op2 : Byte) : EncodingForm.Statement (.unimplCbF8ToFF op2) :=
  EncodingForm.of_extended primaryTable_CB rfl Nat.le.refl

end Sys2Proof.Laws
end

