-- ==== Sys2Proof/Laws/Router.lean ====
section
/-! SUPPORT. The region table of R61 as facts: who owns which address, what it reads as, and what a store leaves alone. -/

set_option Elab.async false

namespace Sys2Proof.Machine

/-- What an address reads as, by its owner. -/
theorem State.lookup_of {s : State} {a : Word} {o : Owner} (h : s.ownerOf a = o) :
    s.lookup a = match (generalizing := false) o with
  | .bootRom => .byte (Memory.readByte (s.cfg.boot.getD []) a.toNat)
  | .romLow => .byte (Memory.readByte s.cfg.cart a.toNat)
  | .romHigh => .byte (Memory.readByte s.cfg.cart a.toNat)
  | .ram k => .byte (Memory.readByte s.mem k)
  | .ifByte => .byte s.ifReg
  | .ieByte => .byte s.ieReg
  | .lcdc => .byte s.lcdc
  | .stat => .byte s.stat
  | .scy => .byte s.scy
  | .scx => .byte s.scx
  | .ly => .draw
  | .bgp => .byte s.bgp
  | .bootComplete => .draw
  | .nobody => .unmapped := by subst h; rfl

/-- After a store, every address it does not touch reads as before (R63). -/
theorem State.lookup_store_of_not_touches {s t : State} {a b : Word} {v : Byte} (h : s.store a v = some t)
    (hb : ¬touches s.cfg a b) :
    t.lookup b = s.lookup b := by
  have hne : b ≠ a := fun e => hb (.inl e)
  have hec : ¬ echoes a b := fun e => hb (.inr (.inl e))
  have hbo : ¬ (a = s.cfg.addrBootOff ∧ isRegisterRange a ∧ b.toNat ≤ 0x00FF) := fun e => hb (.inr (.inr e))
  have ha := State.ownedBy s a
  have hB := State.ownedBy s b
  have hs := State.store_stored h
  generalize s.ownerOf a = o at hs ha
  cases hs with
  | nothing => rfl
  | ram k =>
    unfold State.lookup
    rw [show (State.ownerOf { s with mem := Memory.writeByte s.mem k v } b) = s.ownerOf b from rfl]
    cases ho : s.ownerOf b <;> try rfl
    rename_i j
    rw [ho] at hB
    dsimp only
    rw [Memory.readByte_writeByte_of_ne]
    rintro rfl
    unfold echoes at hec
    rw [Ne, ← BitVec.toNat_inj] at hne
    have h1 := ownedBy_ram ha
    have h2 := ownedBy_ram hB
    omega
  | bootComplete =>
    cases ha with | bootComplete h1 hr =>
    have h2 : 0xFF < b.toNat := by
      have := mt (fun h => And.intro h1 (And.intro hr h)) hbo
      omega
    unfold State.lookup State.ownerOf
    rw [owner_of_high h2 _ s.overlay]
  | _ =>
    unfold State.lookup
    dsimp only [State.ownerOf, State.overlay] at hB ⊢
    cases ho : owner s.cfg (s.cfg.boot.isSome && !s.bootDone) b.toNat <;> try rfl
    rw [ho] at hB
    exact absurd (by cases ha with | _ h1 => cases hB with | _ h2 => exact h2.trans h1.symm) hne

end Sys2Proof.Machine
end

