-- ==== Sys2Proof/Laws/Step.lean ====
section
/-! SUPPORT. What a fetch and a step can do, each said once: the fetch of an instruction whose bytes stand at PC, and what
every instruction and every step keeps. -/

set_option Elab.async false

namespace Sys2Proof.Machine

/-! ## Fetching -/

/-- `n` plain bytes fetched. -/
def State.advance (s : State) (n : Nat) : State :=
  { s with pc := s.pc + BitVec.ofNat 16 n, m := s.m + n, t := s.t + 4 * n }

theorem State.fetched_eq (s : State) (n : Nat) : s.fetched n = s.resolve.advance n := rfl

theorem State.advance_advance (s : State) (j k : Nat) : (s.advance j).advance k = s.advance (j + k) := by
  simp only [State.advance, BitVec.add_assoc, BitVec.ofNat_add, Nat.mul_add, Nat.add_assoc]

theorem State.lookup_advance (s : State) (n : Nat) (a : Word) : (s.advance n).lookup a = s.lookup a := rfl

theorem fetch8_byte {s : State} {v} (h : s.lookup s.pc = .byte v) : fetch8 s = .ok v (s.advance 1) := by
  rw [fetch8_eq, h]; rfl

theorem fetch8_unmapped {s : State} (h : s.lookup s.pc = .unmapped) :
    fetch8 s = .raise (.unmappedAddress s.pc .read) s := by
  rw [fetch8_eq, h]

theorem add_one_add_one (x : Word) : x + 1 + 1 = x + BitVec.ofNat 16 2 := by
  rw [BitVec.add_assoc]
  rfl

theorem State.holds_advance (s : State) (n) (a : Word) (l) : (s.advance n).holds a l ↔ s.holds a l := by
  induction l generalizing a with
  | nil => exact Iff.rfl
  | cons v r ih => simp only [State.holds, State.lookup_advance, ih]

theorem State.holds_resolve (s : State) (a : Word) (l) : s.resolve.holds a l ↔ s.holds a l := by
  induction l generalizing a with
  | nil => exact Iff.rfl
  | cons v r ih => simp only [State.holds, State.lookup_resolve, ih]

/-- What `fetchInstr` gives of the bytes of a selected instruction (R142): the instruction with its bytes fetched, or, of an entry of
the extended table, the byte `cfg.PREFIX` alone. -/
inductive Fetched (s : State) (i : Instr) (bytes : List Byte) : Res Instr → Prop where
  | whole : Fetched s i bytes (.ok i (s.advance bytes.length))
  | extended (op2 : Byte) (hb : bytes = [s.cfg.prefixByte, op2]) (hi : extendedTable op2 = i) :
      Fetched s i bytes (.ok .prefixByte (s.advance 1))

theorem fetchInstr_of_holds (s : State) (i : Instr) (hw : i.wellFormed = true)
    (hs : i.selectedBy s.cfg.prefixByte = true) (h : s.holds s.pc (encodeWith s.cfg.prefixByte i)) :
    Fetched s i (encodeWith s.cfg.prefixByte i) (fetchInstr s) := by
  have he := encodedWith _ i hw hs
  generalize encodeWith s.cfg.prefixByte i = bytes at he h
  cases he with
  | op o hp ht =>
    rw [show fetchInstr s = .ok i (s.advance 1) by
      unfold fetchInstr; rw [fetch8_byte h.1]; simp only [Res.andThen, if_neg hp, ht]]
    exact .whole
  | imm8 o make b1 hp ht hi =>
    rw [show fetchInstr s = .ok i (s.advance 2) by
      unfold fetchInstr; rw [fetch8_byte h.1]; simp only [Res.andThen, if_neg hp, ht]
      rw [fetch8_byte (v := b1) h.2.1, State.advance_advance]; simp only [hi]]
    exact .whole
  | imm16 o make b1 b2 hp ht hi =>
    have h2 : (s.advance (1 + 1)).lookup (s.advance (1 + 1)).pc = .byte b2 := by
      rw [State.lookup_advance, show (s.advance (1 + 1)).pc = s.pc + BitVec.ofNat 16 2 from rfl, ← add_one_add_one]
      exact h.2.2.1
    rw [show fetchInstr s = .ok i (s.advance 3) by
      unfold fetchInstr; rw [fetch8_byte h.1]; simp only [Res.andThen, if_neg hp, ht]
      rw [fetch8_byte (v := b1) h.2.1, State.advance_advance]; dsimp only
      rw [fetch8_byte h2, State.advance_advance]; simp only [hi]]
    exact .whole
  | alone hi =>
    rw [show fetchInstr s = .ok i (s.advance 1) by
      unfold fetchInstr; rw [fetch8_byte h.1]; simp only [Res.andThen, if_true, hi]]
    exact .whole
  | extended op2 hi =>
    rw [show fetchInstr s = .ok .prefixByte (s.advance 1) by
      unfold fetchInstr; rw [fetch8_byte h.1]; simp only [Res.andThen, if_true]]
    exact .extended op2 rfl hi

/-- An instruction of the extended table raises its condition (R145). -/
theorem exec_extended (i : Instr) (op2 : Byte) (s : State) (he : encode i = [prefixCode, op2]) :
    exec i s = raiseUnimplementedExtended op2 s := by
  cases instrForm i with
  | ldRegImm8 r d8 => cases r <;> exact absurd (List.cons.inj he).1 (by decide)
  | ldAtHlD8 d8 => exact absurd (List.cons.inj he).1 (by decide)
  | ldPairImm16 p b1 b2 => cases p <;> exact absurd (congrArg List.length he) (by show ¬(3 = 2); decide)
  | ldRegReg r r' => cases r <;> cases r' <;> exact absurd (congrArg List.length he) (by show ¬(1 = 2); decide)
  | ldRegAtHl r => cases r <;> exact absurd (congrArg List.length he) (by show ¬(1 = 2); decide)
  | ldAtHlReg r => cases r <;> exact absurd (congrArg List.length he) (by show ¬(1 = 2); decide)
  | ldSpD16 | ldAtA16A | callA16 => exact absurd (congrArg List.length he) (by show ¬(3 = 2); decide)
  | ldHlSpR8 r8 => exact absurd (List.cons.inj he).1 (by decide)
  | aluReg op r => cases op <;> cases r <;> exact absurd (congrArg List.length he) (by show ¬(1 = 2); decide)
  | aluAtHl op => cases op <;> exact absurd (congrArg List.length he) (by show ¬(1 = 2); decide)
  | aluImm8 op d8 => cases op <;> exact absurd (List.cons.inj he).1 (by decide)
  | incReg r => cases r <;> exact absurd (congrArg List.length he) (by show ¬(1 = 2); decide)
  | decReg r => cases r <;> exact absurd (congrArg List.length he) (by show ¬(1 = 2); decide)
  | incAtHl | decAtHl | ret | di | ei | prefixByte => exact absurd (congrArg List.length he) (by show ¬(1 = 2); decide)
  | pushPair p => cases p <;> exact absurd (congrArg List.length he) (by show ¬(1 = 2); decide)
  | popPair p => cases p <;> exact absurd (congrArg List.length he) (by show ¬(1 = 2); decide)
  | unimplemented op _ h => rw [h] at he; simp at he
  | extended o _ h hx => rw [h] at he; simp [prefixCode] at he; rw [hx, he]

/-! ## What every step keeps -/

/-- What no instruction breaks: the low nibble of F (R21), the pending flags (R29), the counters (R28), memory's form, the
configuration (R30), IME (R141) and the overlay once off (R32). -/
structure Keeps (s u : State) : Prop where
  f : s.f &&& 0x0F = 0 → u.f &&& 0x0F = 0
  pend : ¬(s.pendDi = true ∧ s.pendEi = true) → ¬(u.pendDi = true ∧ u.pendEi = true)
  m : s.m ≤ u.m
  t : u.t + 4 * s.m = s.t + 4 * u.m
  wf : Memory.wf s.mem → Memory.wf u.mem
  cells : (∀ p ∈ s.mem, s.cfg.ramCell p.1 = true) → ∀ p ∈ u.mem, u.cfg.ramCell p.1 = true
  cfg : u.cfg = s.cfg
  ime : u.ime = s.ime
  boot : s.bootDone = true → u.bootDone = true

theorem Keeps.refl (s : State) : Keeps s s := ⟨id, id, Nat.le_refl _, rfl, id, id, rfl, rfl, id⟩

theorem Keeps.trans {s t u : State} (h : Keeps s t) (g : Keeps t u) : Keeps s u :=
  ⟨g.f ∘ h.f, g.pend ∘ h.pend, h.m.trans g.m, by have := h.t; have := g.t; omega, g.wf ∘ h.wf, g.cells ∘ h.cells,
    g.cfg.trans h.cfg, g.ime.trans h.ime, g.boot ∘ h.boot⟩

theorem Keeps.of_eq {s t : State} (hf : t.f = s.f) (h1 : t.pendDi = s.pendDi) (h2 : t.pendEi = s.pendEi)
    (h3 : t.m = s.m) (h4 : t.t = s.t) (h5 : t.mem = s.mem) (h6 : t.cfg = s.cfg) (h7 : t.ime = s.ime)
    (h8 : t.bootDone = s.bootDone) : Keeps s t :=
  ⟨by rw [hf]; exact id, by rw [h1, h2]; exact id, by omega, by omega, by rw [h5]; exact id, by rw [h5, h6]; exact id, h6, h7,
    by rw [h8]; exact id⟩

theorem Keeps.tick (s : State) (n : Nat) : Keeps s (s.tick n) :=
  ⟨id, id, Nat.le_add_right _ _, by simp; omega, id, id, rfl, rfl, id⟩

theorem Keeps.setFlags (s : State) (z n h c) : Keeps s (s.setFlags z n h c) :=
  ⟨fun _ => flagByte_low z n h c, id, Nat.le_refl _, rfl, id, id, rfl, rfl, id⟩

theorem Keeps.setReg (s : State) (r v) : Keeps s (s.setReg r v) := by
  cases r <;> exact Keeps.of_eq rfl rfl rfl rfl rfl rfl rfl rfl rfl

theorem Keeps.setPair (s : State) (r v) : Keeps s (s.setPair r v) := by
  cases r <;> exact Keeps.of_eq rfl rfl rfl rfl rfl rfl rfl rfl rfl

theorem Keeps.sp (s : State) (v) : Keeps s { s with sp := v } := Keeps.of_eq rfl rfl rfl rfl rfl rfl rfl rfl rfl

theorem Keeps.pc (s : State) (v) : Keeps s { s with pc := v } := Keeps.of_eq rfl rfl rfl rfl rfl rfl rfl rfl rfl

theorem Keeps.draws (s : State) (v) : Keeps s { s with draws := v } := Keeps.of_eq rfl rfl rfl rfl rfl rfl rfl rfl rfl

theorem Keeps.take (s : State) (e) : Keeps s (takeCondition e s) := Keeps.of_eq rfl rfl rfl rfl rfl rfl rfl rfl rfl

theorem Keeps.store {s t : State} {a v} (h : s.store a v = some t) : Keeps s t := by
  have c := State.store_sameCpu h
  exact ⟨by rw [c.f]; exact id, by rw [c.pendDi, c.pendEi]; exact id, by rw [c.m], by rw [c.m, c.t],
    (State.store_mem h).1, (State.store_mem h).2, c.cfg, c.ime, State.store_bootDone h⟩

/-- The same of a sub-step, whether or not it raises. -/
def ResKeeps {α : Type} (s : State) : Res α → Prop
  | .ok _ t => Keeps s t
  | .raise _ t => Keeps s t

theorem ResKeeps.trans {α : Type} {s t : State} {r : Res α} (h : Keeps s t) (g : ResKeeps t r) : ResKeeps s r := by
  cases r <;> exact h.trans g

theorem ResKeeps.andThen {α β : Type} {s : State} {r : Res α} {k : α → State → Res β} (h : ResKeeps s r)
    (g : ∀ v t, ResKeeps t (k v t)) : ResKeeps s (r.andThen k) := by
  cases r with
  | ok v t => exact ResKeeps.trans (t := t) h (g v t)
  | raise e t => exact h

theorem ResKeeps.finish {s t : State} {r : Res Unit} (hn : r.finish = .next t) (h : ResKeeps s r) : Keeps s t := by
  cases r with
  | ok v u => cases hn; exact h
  | raise e u => cases hn; exact Keeps.trans (t := u) h (Keeps.take u e)

theorem rd8_keeps (a : Word) (s : State) : ResKeeps s (rd8 a s) := by
  rw [rd8_eq]
  split
  · exact Keeps.tick s 1
  · exact (Keeps.draws s _).trans (Keeps.tick _ 1)
  · exact Keeps.refl s

theorem wr8_keeps (a : Word) (v) (s : State) : ResKeeps s (wr8 a v s) := by
  rw [wr8_eq]
  split
  · rename_i h; exact (Keeps.store h).trans (Keeps.tick _ 1)
  · exact Keeps.refl s

theorem fetch8_keeps (s : State) : ResKeeps s (fetch8 s) :=
  (rd8_keeps _ _).andThen fun _ t => Keeps.pc t _

theorem push16_keeps (v) (s : State) : ResKeeps s (push16 v s) :=
  ResKeeps.trans (Keeps.sp s _) ((wr8_keeps _ _ _).andThen fun _ t => ResKeeps.trans (Keeps.sp t _) (wr8_keeps _ _ _))

theorem pop16_keeps (s : State) : ResKeeps s (pop16 s) :=
  (rd8_keeps _ _).andThen fun _ t => ResKeeps.trans (Keeps.sp t _) ((rd8_keeps _ _).andThen fun _ u => Keeps.sp u _)

theorem aluApply_keeps (op v) (s : State) : Keeps s (aluApply op v s) := by
  unfold aluApply
  dsimp only
  split
  · exact (Keeps.setFlags s _ _ _ _).trans (Keeps.setReg _ _ _)
  · exact Keeps.setFlags s _ _ _ _

/-- Every instruction keeps the invariants, from every state. -/
theorem exec_keeps (i : Instr) (s t : State) (h : exec i s = .next t) : Keeps s t := by
  have of : ∀ u, Host.Outcome.next u =
      (Host.Outcome.next t : Host.Outcome State Fault Refusal) → Keeps s u → Keeps s t := by
    intro u hu hk; cases hu; exact hk
  cases instrForm i with
  | ldRegImm8 r d8 => rw [exec_ldRegImm8] at h; exact of _ h (Keeps.setReg _ _ _)
  | ldAtHlD8 d8 => exact ResKeeps.finish h (wr8_keeps _ _ _)
  | ldPairImm16 p b1 b2 => rw [exec_ldPairImm16] at h; exact of _ h (Keeps.setPair _ _ _)
  | ldSpD16 b1 b2 => exact of _ h (Keeps.sp _ _)
  | ldRegReg r r' => rw [exec_ldRegReg] at h; exact of _ h (Keeps.setReg _ _ _)
  | ldRegAtHl r => rw [exec_ldRegAtHl] at h; exact ResKeeps.finish h ((rd8_keeps _ _).andThen fun _ _ => Keeps.setReg _ _ _)
  | ldAtHlReg r => rw [exec_ldAtHlReg] at h; exact ResKeeps.finish h (wr8_keeps _ _ _)
  | ldAtA16A b1 b2 => exact ResKeeps.finish h (wr8_keeps _ _ _)
  | ldHlSpR8 r8 => exact of _ h ((Keeps.setPair _ _ _).trans ((Keeps.setFlags _ _ _ _ _).trans (Keeps.tick _ _)))
  | aluReg op r => rw [exec_aluReg] at h; exact of _ h (aluApply_keeps _ _ _)
  | aluAtHl op => rw [exec_aluAtHl] at h; exact ResKeeps.finish h ((rd8_keeps _ _).andThen fun _ _ => aluApply_keeps _ _ _)
  | aluImm8 op d8 => rw [exec_aluImm8] at h; exact of _ h (aluApply_keeps _ _ _)
  | incReg r => rw [exec_incReg] at h; exact of _ h ((Keeps.setFlags _ _ _ _ _).trans (Keeps.setReg _ _ _))
  | decReg r => rw [exec_decReg] at h; exact of _ h ((Keeps.setFlags _ _ _ _ _).trans (Keeps.setReg _ _ _))
  | incAtHl => exact ResKeeps.finish h ((rd8_keeps _ _).andThen fun _ _ => ResKeeps.trans (Keeps.setFlags _ _ _ _ _) (wr8_keeps _ _ _))
  | decAtHl => exact ResKeeps.finish h ((rd8_keeps _ _).andThen fun _ _ => ResKeeps.trans (Keeps.setFlags _ _ _ _ _) (wr8_keeps _ _ _))
  | pushPair p => rw [exec_pushPair] at h; exact ResKeeps.finish h (ResKeeps.trans (Keeps.tick _ _) (push16_keeps _ _))
  | popPair p => rw [exec_popPair] at h; exact ResKeeps.finish h ((pop16_keeps _).andThen fun _ _ => Keeps.setPair _ _ _)
  | callA16 b1 b2 => exact ResKeeps.finish h (ResKeeps.trans (Keeps.tick _ _) ((push16_keeps _ _).andThen fun _ _ => Keeps.pc _ _))
  | ret => exact ResKeeps.finish h ((pop16_keeps _).andThen fun _ _ => (Keeps.tick _ _).trans (Keeps.pc _ _))
  | di => exact of _ h ⟨id, by simp, Nat.le_refl _, rfl, id, id, rfl, rfl, id⟩
  | ei => exact of _ h ⟨id, by simp, Nat.le_refl _, rfl, id, id, rfl, rfl, id⟩
  | prefixByte =>
    rw [exec_prefixByte] at h
    split at h
    · exact of _ h (((Keeps.tick _ _).trans (Keeps.pc _ _)).trans (Keeps.take _ _))
    · exact of _ h ((((Keeps.draws _ _).trans (Keeps.tick _ _)).trans (Keeps.pc _ _)).trans (Keeps.take _ _))
    · exact of _ h (Keeps.take _ _)
  | unimplemented op _ _ _ hx => rw [hx] at h; exact of _ h (Keeps.take _ _)
  | extended o _ _ hx => rw [hx] at h; exact of _ h (Keeps.take _ _)

theorem fetchInstr_keeps (s : State) : ResKeeps s (fetchInstr s) := by
  refine (fetch8_keeps s).andThen fun op t => ?_
  split
  · exact Keeps.refl _
  split
  · exact Keeps.refl _
  · exact (fetch8_keeps _).andThen fun _ _ => Keeps.refl _
  · exact (fetch8_keeps _).andThen fun _ _ => (fetch8_keeps _).andThen fun _ _ => Keeps.refl _
  · exact Keeps.refl _

/-- Every step that answers a next state keeps the invariants of the resolved state. -/
theorem step_keeps {s t : State} (h : step s = .next t) : Keeps s.resolve t := by
  rw [step_of_no_fault (no_fault_of_step_next h)] at h
  have hk := fetchInstr_keeps s.resolve
  cases hf : fetchInstr s.resolve with
  | ok i u =>
    rw [hf] at h hk
    obtain ⟨w, hw, -, hrest⟩ := endStep_next h
    have hx := Keeps.trans (t := u) hk (exec_keeps i u w hw)
    rcases hrest with ⟨-, rfl⟩ | ⟨-, rfl⟩
    · exact hx.trans (Keeps.tick _ _)
    · exact hx
  | raise e u => rw [hf] at h hk; cases h; exact Keeps.trans (t := u) hk (Keeps.take _ _)

end Sys2Proof.Machine
end

