-- ==== Sys2Proof/Tests/Slice0.lean ====
section
/-! SUPPORT. Tests. Expected results are those of the opcode table (R122) and of the vectors of 95_test_vectors.md, whose
section each test names; then, for every statement with hypotheses, a state and operands that meet them. -/

set_option Elab.async false

namespace Sys2Proof.Tests

open Sys2Proof.Machine

/-! ## Helpers -/

/-- The conventions of 95_test_vectors.md: reset, then bytes placed at an address of work RAM (or elsewhere) and PC there. -/
def at_ (pc : Word) (bytes : List Byte) (s : State := State.reset) : State := State.placeBytes { s with pc := pc } pc bytes

/-- The same at 0xC000. -/
def code (bytes : List Byte) (s : State := State.reset) : State := at_ 0xC000 bytes s

/-- The state after a step. -/
def stepped (s : State) : State :=
  match step s with
  | .next t => t
  | _ => s

/-- Whether bytes decode to an instruction, with nothing left. -/
def decodesTo (p : List Byte × Instr) : Bool := decide (firstDecoded (decode p.1) none = some p.2)

/-- Whether a table word decodes to an instruction. -/
def tableWordIs (p : Nat × Nat × Instr) : Bool := decide (decodeTableWord p.1 p.2.1 = some p.2.2)

/-! ## Well-formed instructions -/

/-- The check of each row refuses the opcode just above the eight it covers. -/
theorem test_illformed_above_0 : ([.unimplCb00To07 0x08, .unimplCb08To0F 0x10, .unimplCb10To17 0x18, .unimplCb18To1F 0x20,
    .unimplCb20To27 0x28, .unimplCb28To2F 0x30, .unimplCb30To37 0x38, .unimplCb38To3F 0x40,
    .unimplCb40To47 0x48, .unimplCb48To4F 0x50, .unimplCb50To57 0x58, .unimplCb58To5F 0x60,
    .unimplCb60To67 0x68, .unimplCb68To6F 0x70, .unimplCb70To77 0x78, .unimplCb78To7F 0x80] : List Instr).all (fun i => !i.wellFormed) = true := by decide

theorem test_illformed_above_1 : ([.unimplCb80To87 0x88, .unimplCb88To8F 0x90, .unimplCb90To97 0x98, .unimplCb98To9F 0xA0,
    .unimplCbA0ToA7 0xA8, .unimplCbA8ToAF 0xB0, .unimplCbB0ToB7 0xB8, .unimplCbB8ToBF 0xC0,
    .unimplCbC0ToC7 0xC8, .unimplCbC8ToCF 0xD0, .unimplCbD0ToD7 0xD8, .unimplCbD8ToDF 0xE0,
    .unimplCbE0ToE7 0xE8, .unimplCbE8ToEF 0xF0, .unimplCbF0ToF7 0xF8, .unimplCbF8ToFF 0x00] : List Instr).all (fun i => !i.wellFormed) = true := by decide

/-- The check of each row refuses the opcode just below the eight it covers. -/
theorem test_illformed_below_0 : ([.unimplCb00To07 0xFF, .unimplCb08To0F 0x07, .unimplCb10To17 0x0F, .unimplCb18To1F 0x17,
    .unimplCb20To27 0x1F, .unimplCb28To2F 0x27, .unimplCb30To37 0x2F, .unimplCb38To3F 0x37,
    .unimplCb40To47 0x3F, .unimplCb48To4F 0x47, .unimplCb50To57 0x4F, .unimplCb58To5F 0x57,
    .unimplCb60To67 0x5F, .unimplCb68To6F 0x67, .unimplCb70To77 0x6F, .unimplCb78To7F 0x77] : List Instr).all (fun i => !i.wellFormed) = true := by decide

theorem test_illformed_below_1 : ([.unimplCb80To87 0x7F, .unimplCb88To8F 0x87, .unimplCb90To97 0x8F, .unimplCb98To9F 0x97,
    .unimplCbA0ToA7 0x9F, .unimplCbA8ToAF 0xA7, .unimplCbB0ToB7 0xAF, .unimplCbB8ToBF 0xB7,
    .unimplCbC0ToC7 0xBF, .unimplCbC8ToCF 0xC7, .unimplCbD0ToD7 0xCF, .unimplCbD8ToDF 0xD7,
    .unimplCbE0ToE7 0xDF, .unimplCbE8ToEF 0xE7, .unimplCbF0ToF7 0xEF, .unimplCbF8ToFF 0xF7] : List Instr).all (fun i => !i.wellFormed) = true := by decide

theorem test_wellformed : (Instr.unimplCb30To37 0x37).wellFormed = true ∧ (Instr.unimplCb30To37 0x30).wellFormed = true ∧
    (Instr.ldBD8 0xFF).wellFormed = true := by decide

/-! ## Decoding: every row of the opcode table, its `match` value written out with operand bytes -/

theorem test_decode_0x : ([([0x00], .unimpl00), ([0x01, 0xAB, 0xCD], .ldBcD16 0xAB 0xCD), ([0x02], .unimpl02), ([0x03], .unimpl03),
    ([0x04], .incB), ([0x05], .decB), ([0x06, 0xAB], .ldBD8 0xAB), ([0x07], .unimpl07),
    ([0x08], .unimpl08), ([0x09], .unimpl09), ([0x0A], .unimpl0A), ([0x0B], .unimpl0B),
    ([0x0C], .incC), ([0x0D], .decC), ([0x0E, 0xAB], .ldCD8 0xAB), ([0x0F], .unimpl0F)] : List (List Byte × Instr)).all decodesTo = true := by decide

theorem test_decode_1x : ([([0x10], .unimpl10), ([0x11, 0xAB, 0xCD], .ldDeD16 0xAB 0xCD), ([0x12], .unimpl12), ([0x13], .unimpl13),
    ([0x14], .incD), ([0x15], .decD), ([0x16, 0xAB], .ldDD8 0xAB), ([0x17], .unimpl17),
    ([0x18], .unimpl18), ([0x19], .unimpl19), ([0x1A], .unimpl1A), ([0x1B], .unimpl1B),
    ([0x1C], .incE), ([0x1D], .decE), ([0x1E, 0xAB], .ldED8 0xAB), ([0x1F], .unimpl1F)] : List (List Byte × Instr)).all decodesTo = true := by decide

theorem test_decode_2x : ([([0x20], .unimpl20), ([0x21, 0xAB, 0xCD], .ldHlD16 0xAB 0xCD), ([0x22], .unimpl22), ([0x23], .unimpl23),
    ([0x24], .incH), ([0x25], .decH), ([0x26, 0xAB], .ldHD8 0xAB), ([0x27], .unimpl27),
    ([0x28], .unimpl28), ([0x29], .unimpl29), ([0x2A], .unimpl2A), ([0x2B], .unimpl2B),
    ([0x2C], .incL), ([0x2D], .decL), ([0x2E, 0xAB], .ldLD8 0xAB), ([0x2F], .unimpl2F)] : List (List Byte × Instr)).all decodesTo = true := by decide

theorem test_decode_3x : ([([0x30], .unimpl30), ([0x31, 0xAB, 0xCD], .ldSpD16 0xAB 0xCD), ([0x32], .unimpl32), ([0x33], .unimpl33),
    ([0x34], .incAtHl), ([0x35], .decAtHl), ([0x36, 0xAB], .ldAtHlD8 0xAB), ([0x37], .unimpl37),
    ([0x38], .unimpl38), ([0x39], .unimpl39), ([0x3A], .unimpl3A), ([0x3B], .unimpl3B),
    ([0x3C], .incA), ([0x3D], .decA), ([0x3E, 0xAB], .ldAD8 0xAB), ([0x3F], .unimpl3F)] : List (List Byte × Instr)).all decodesTo = true := by decide

theorem test_decode_4x : ([([0x40], .ldBB), ([0x41], .ldBC), ([0x42], .ldBD), ([0x43], .ldBE),
    ([0x44], .ldBH), ([0x45], .ldBL), ([0x46], .ldBAtHl), ([0x47], .ldBA),
    ([0x48], .ldCB), ([0x49], .ldCC), ([0x4A], .ldCD), ([0x4B], .ldCE),
    ([0x4C], .ldCH), ([0x4D], .ldCL), ([0x4E], .ldCAtHl), ([0x4F], .ldCA)] : List (List Byte × Instr)).all decodesTo = true := by decide

theorem test_decode_5x : ([([0x50], .ldDB), ([0x51], .ldDC), ([0x52], .ldDD), ([0x53], .ldDE),
    ([0x54], .ldDH), ([0x55], .ldDL), ([0x56], .ldDAtHl), ([0x57], .ldDA),
    ([0x58], .ldEB), ([0x59], .ldEC), ([0x5A], .ldED), ([0x5B], .ldEE),
    ([0x5C], .ldEH), ([0x5D], .ldEL), ([0x5E], .ldEAtHl), ([0x5F], .ldEA)] : List (List Byte × Instr)).all decodesTo = true := by decide

theorem test_decode_6x : ([([0x60], .ldHB), ([0x61], .ldHC), ([0x62], .ldHD), ([0x63], .ldHE),
    ([0x64], .ldHH), ([0x65], .ldHL), ([0x66], .ldHAtHl), ([0x67], .ldHA),
    ([0x68], .ldLB), ([0x69], .ldLC), ([0x6A], .ldLD), ([0x6B], .ldLE),
    ([0x6C], .ldLH), ([0x6D], .ldLL), ([0x6E], .ldLAtHl), ([0x6F], .ldLA)] : List (List Byte × Instr)).all decodesTo = true := by decide

theorem test_decode_7x : ([([0x70], .ldAtHlB), ([0x71], .ldAtHlC), ([0x72], .ldAtHlD), ([0x73], .ldAtHlE),
    ([0x74], .ldAtHlH), ([0x75], .ldAtHlL), ([0x76], .unimpl76), ([0x77], .ldAtHlA),
    ([0x78], .ldAB), ([0x79], .ldAC), ([0x7A], .ldAD), ([0x7B], .ldAE),
    ([0x7C], .ldAH), ([0x7D], .ldAL), ([0x7E], .ldAAtHl), ([0x7F], .ldAA)] : List (List Byte × Instr)).all decodesTo = true := by decide

theorem test_decode_8x : ([([0x80], .addAB), ([0x81], .addAC), ([0x82], .addAD), ([0x83], .addAE),
    ([0x84], .addAH), ([0x85], .addAL), ([0x86], .addAAtHl), ([0x87], .addAA),
    ([0x88], .unimpl88), ([0x89], .unimpl89), ([0x8A], .unimpl8A), ([0x8B], .unimpl8B),
    ([0x8C], .unimpl8C), ([0x8D], .unimpl8D), ([0x8E], .unimpl8E), ([0x8F], .unimpl8F)] : List (List Byte × Instr)).all decodesTo = true := by decide

theorem test_decode_9x : ([([0x90], .subB), ([0x91], .subC), ([0x92], .subD), ([0x93], .subE),
    ([0x94], .subH), ([0x95], .subL), ([0x96], .subAtHl), ([0x97], .subA),
    ([0x98], .unimpl98), ([0x99], .unimpl99), ([0x9A], .unimpl9A), ([0x9B], .unimpl9B),
    ([0x9C], .unimpl9C), ([0x9D], .unimpl9D), ([0x9E], .unimpl9E), ([0x9F], .unimpl9F)] : List (List Byte × Instr)).all decodesTo = true := by decide

theorem test_decode_Ax : ([([0xA0], .andB), ([0xA1], .andC), ([0xA2], .andD), ([0xA3], .andE),
    ([0xA4], .andH), ([0xA5], .andL), ([0xA6], .andAtHl), ([0xA7], .andA),
    ([0xA8], .xorB), ([0xA9], .xorC), ([0xAA], .xorD), ([0xAB], .xorE),
    ([0xAC], .xorH), ([0xAD], .xorL), ([0xAE], .xorAtHl), ([0xAF], .xorA)] : List (List Byte × Instr)).all decodesTo = true := by decide

theorem test_decode_Bx : ([([0xB0], .orB), ([0xB1], .orC), ([0xB2], .orD), ([0xB3], .orE),
    ([0xB4], .orH), ([0xB5], .orL), ([0xB6], .orAtHl), ([0xB7], .orA),
    ([0xB8], .cpB), ([0xB9], .cpC), ([0xBA], .cpD), ([0xBB], .cpE),
    ([0xBC], .cpH), ([0xBD], .cpL), ([0xBE], .cpAtHl), ([0xBF], .cpA)] : List (List Byte × Instr)).all decodesTo = true := by decide

theorem test_decode_Cx : ([([0xC0], .unimplC0), ([0xC1], .popBc), ([0xC2], .unimplC2), ([0xC3], .unimplC3),
    ([0xC4], .unimplC4), ([0xC5], .pushBc), ([0xC6, 0xAB], .addAD8 0xAB), ([0xC7], .unimplC7),
    ([0xC8], .unimplC8), ([0xC9], .ret), ([0xCA], .unimplCA), ([0xCB], .prefixByte),
    ([0xCC], .unimplCC), ([0xCD, 0xAB, 0xCD], .callA16 0xAB 0xCD), ([0xCE], .unimplCE), ([0xCF], .unimplCF)] : List (List Byte × Instr)).all decodesTo = true := by decide

theorem test_decode_Dx : ([([0xD0], .unimplD0), ([0xD1], .popDe), ([0xD2], .unimplD2), ([0xD3], .unimplD3),
    ([0xD4], .unimplD4), ([0xD5], .pushDe), ([0xD6, 0xAB], .subD8 0xAB), ([0xD7], .unimplD7),
    ([0xD8], .unimplD8), ([0xD9], .unimplD9), ([0xDA], .unimplDA), ([0xDB], .unimplDB),
    ([0xDC], .unimplDC), ([0xDD], .unimplDD), ([0xDE], .unimplDE), ([0xDF], .unimplDF)] : List (List Byte × Instr)).all decodesTo = true := by decide

theorem test_decode_Ex : ([([0xE0], .unimplE0), ([0xE1], .popHl), ([0xE2], .unimplE2), ([0xE3], .unimplE3),
    ([0xE4], .unimplE4), ([0xE5], .pushHl), ([0xE6, 0xAB], .andD8 0xAB), ([0xE7], .unimplE7),
    ([0xE8], .unimplE8), ([0xE9], .unimplE9), ([0xEA, 0xAB, 0xCD], .ldAtA16A 0xAB 0xCD), ([0xEB], .unimplEB),
    ([0xEC], .unimplEC), ([0xED], .unimplED), ([0xEE, 0xAB], .xorD8 0xAB), ([0xEF], .unimplEF)] : List (List Byte × Instr)).all decodesTo = true := by decide

theorem test_decode_Fx : ([([0xF0], .unimplF0), ([0xF1], .unimplF1), ([0xF2], .unimplF2), ([0xF3], .di),
    ([0xF4], .unimplF4), ([0xF5], .unimplF5), ([0xF6, 0xAB], .orD8 0xAB), ([0xF7], .unimplF7),
    ([0xF8, 0xAB], .ldHlSpR8 0xAB), ([0xF9], .unimplF9), ([0xFA], .unimplFA), ([0xFB], .ei),
    ([0xFC], .unimplFC), ([0xFD], .unimplFD), ([0xFE, 0xAB], .cpD8 0xAB), ([0xFF], .unimplFF)] : List (List Byte × Instr)).all decodesTo = true := by decide

theorem test_decode_cb_0 : ([([0xCB, 0x00], .unimplCb00To07 0x00), ([0xCB, 0x07], .unimplCb00To07 0x07),
    ([0xCB, 0x08], .unimplCb08To0F 0x08), ([0xCB, 0x0F], .unimplCb08To0F 0x0F),
    ([0xCB, 0x10], .unimplCb10To17 0x10), ([0xCB, 0x17], .unimplCb10To17 0x17),
    ([0xCB, 0x18], .unimplCb18To1F 0x18), ([0xCB, 0x1F], .unimplCb18To1F 0x1F),
    ([0xCB, 0x20], .unimplCb20To27 0x20), ([0xCB, 0x27], .unimplCb20To27 0x27),
    ([0xCB, 0x28], .unimplCb28To2F 0x28), ([0xCB, 0x2F], .unimplCb28To2F 0x2F),
    ([0xCB, 0x30], .unimplCb30To37 0x30), ([0xCB, 0x37], .unimplCb30To37 0x37),
    ([0xCB, 0x38], .unimplCb38To3F 0x38), ([0xCB, 0x3F], .unimplCb38To3F 0x3F)] : List (List Byte × Instr)).all decodesTo = true := by decide

theorem test_decode_cb_1 : ([([0xCB, 0x40], .unimplCb40To47 0x40), ([0xCB, 0x47], .unimplCb40To47 0x47),
    ([0xCB, 0x48], .unimplCb48To4F 0x48), ([0xCB, 0x4F], .unimplCb48To4F 0x4F),
    ([0xCB, 0x50], .unimplCb50To57 0x50), ([0xCB, 0x57], .unimplCb50To57 0x57),
    ([0xCB, 0x58], .unimplCb58To5F 0x58), ([0xCB, 0x5F], .unimplCb58To5F 0x5F),
    ([0xCB, 0x60], .unimplCb60To67 0x60), ([0xCB, 0x67], .unimplCb60To67 0x67),
    ([0xCB, 0x68], .unimplCb68To6F 0x68), ([0xCB, 0x6F], .unimplCb68To6F 0x6F),
    ([0xCB, 0x70], .unimplCb70To77 0x70), ([0xCB, 0x77], .unimplCb70To77 0x77),
    ([0xCB, 0x78], .unimplCb78To7F 0x78), ([0xCB, 0x7F], .unimplCb78To7F 0x7F)] : List (List Byte × Instr)).all decodesTo = true := by decide

theorem test_decode_cb_2 : ([([0xCB, 0x80], .unimplCb80To87 0x80), ([0xCB, 0x87], .unimplCb80To87 0x87),
    ([0xCB, 0x88], .unimplCb88To8F 0x88), ([0xCB, 0x8F], .unimplCb88To8F 0x8F),
    ([0xCB, 0x90], .unimplCb90To97 0x90), ([0xCB, 0x97], .unimplCb90To97 0x97),
    ([0xCB, 0x98], .unimplCb98To9F 0x98), ([0xCB, 0x9F], .unimplCb98To9F 0x9F),
    ([0xCB, 0xA0], .unimplCbA0ToA7 0xA0), ([0xCB, 0xA7], .unimplCbA0ToA7 0xA7),
    ([0xCB, 0xA8], .unimplCbA8ToAF 0xA8), ([0xCB, 0xAF], .unimplCbA8ToAF 0xAF),
    ([0xCB, 0xB0], .unimplCbB0ToB7 0xB0), ([0xCB, 0xB7], .unimplCbB0ToB7 0xB7),
    ([0xCB, 0xB8], .unimplCbB8ToBF 0xB8), ([0xCB, 0xBF], .unimplCbB8ToBF 0xBF)] : List (List Byte × Instr)).all decodesTo = true := by decide

theorem test_decode_cb_3 : ([([0xCB, 0xC0], .unimplCbC0ToC7 0xC0), ([0xCB, 0xC7], .unimplCbC0ToC7 0xC7),
    ([0xCB, 0xC8], .unimplCbC8ToCF 0xC8), ([0xCB, 0xCF], .unimplCbC8ToCF 0xCF),
    ([0xCB, 0xD0], .unimplCbD0ToD7 0xD0), ([0xCB, 0xD7], .unimplCbD0ToD7 0xD7),
    ([0xCB, 0xD8], .unimplCbD8ToDF 0xD8), ([0xCB, 0xDF], .unimplCbD8ToDF 0xDF),
    ([0xCB, 0xE0], .unimplCbE0ToE7 0xE0), ([0xCB, 0xE7], .unimplCbE0ToE7 0xE7),
    ([0xCB, 0xE8], .unimplCbE8ToEF 0xE8), ([0xCB, 0xEF], .unimplCbE8ToEF 0xEF),
    ([0xCB, 0xF0], .unimplCbF0ToF7 0xF0), ([0xCB, 0xF7], .unimplCbF0ToF7 0xF7),
    ([0xCB, 0xF8], .unimplCbF8ToFF 0xF8), ([0xCB, 0xFF], .unimplCbF8ToFF 0xFF)] : List (List Byte × Instr)).all decodesTo = true := by decide

/-- Words written bit by bit from the formats of R111, one or more of every family. -/
theorem test_decode_bits : ([
    ([0b00_000_110, 0x42], .ldBD8 0x42), ([0b00_111_110, 0x42], .ldAD8 0x42), ([0b00_110_110, 0x5A], .ldAtHlD8 0x5A),
    ([0b00_10_0001, 0xAB, 0xCD], .ldHlD16 0xAB 0xCD), ([0b00_11_0001, 0xAB, 0xCD], .ldSpD16 0xAB 0xCD),
    ([0b01_100_101], .ldHL), ([0b01_101_110], .ldLAtHl), ([0b01_110_111], .ldAtHlA),
    ([0b10_000_000], .addAB), ([0b10_010_110], .subAtHl), ([0b10_111_111], .cpA), ([0b11_100_110, 0x0F], .andD8 0x0F),
    ([0b00_001_101], .decC), ([0b00_110_100], .incAtHl), ([0b11_01_0101], .pushDe), ([0b11_10_0001], .popHl),
    ([0b11_001_101, 0x12, 0x34], .callA16 0x12 0x34), ([0b11_001_001], .ret), ([0b11_110_011], .di),
    ([0b11_111_011], .ei), ([0b11_111_000, 0xFF], .ldHlSpR8 0xFF), ([0b11_101_010, 0x12, 0x34], .ldAtA16A 0x12 0x34),
    ([0b01_110_110], .unimpl76), ([0b11_001_011, 0b00_110_111], .unimplCb30To37 0b00_110_111)] :
      List (List Byte × Instr)).all decodesTo = true := by decide

/-- Table words, numbered by R122: 8 bits for a primary row, `byte0 * 256 + byte1` for an extended one. -/
theorem test_table_words : ([(8, 0x06, .ldBD8 0x00), (8, 0xCD, .callA16 0x00 0x00), (8, 0xCB, .prefixByte), (8, 0x76, .unimpl76),
    (16, 0xCB37, .unimplCb30To37 0x37)] : List (Nat × Nat × Instr)).all tableWordIs = true := by decide

/-- Missing bytes are named, and the table's prefix byte under another prefix. -/
theorem test_decode_truncated : decode [0xEA, 0x12] = .error (.truncated 0xEA) ∧ decode [] = .error .noBytes ∧
    decodeWith 0x40 [0xCB, 0x37] = .error (.notThePrefix 0xCB) ∧
    decodeWith 0x40 [0x40, 0x37] = .ok (.unimplCb30To37 0x37, []) := ⟨rfl, rfl, rfl, rfl⟩

/-- A placed table word is what the next step runs, as the first instruction after reset: `LD SP,d16` with zero operands. -/
theorem test_withFetchWord : (stepped (State.reset.withFetchWord 8 0x31)).pc = 0x0003 ∧
    (stepped (State.reset.withFetchWord 16 0xCB37)).fault = some (.unimplementedExtendedOpcode 0xCB 0x37) := by decide

/-! ## Loads (sections 1.6 to 1.8, 2.1, 2.2) -/

theorem test_ld_r_d8 : (stepped (code [0x06, 0xA5])).b = 0xA5 ∧ (stepped (code [0x3E, 0xA5])).a = 0xA5 ∧
    (stepped (code [0x26, 0xA5])).h = 0xA5 ∧ (stepped (code [0x06, 0xA5])).pc = 0xC002 ∧
    (stepped (code [0x06, 0xA5])).m = 2 := by decide

/-- Section 1.6, at PC = 0x0000 of the cartridge. -/
theorem test_ld_b_d8_source : (stepped (at_ 0x0000 [0x06, 0x42])).b = 0x42 ∧ (stepped (at_ 0x0000 [0x06, 0x42])).t = 8 := by
  decide

theorem test_ld_hl_d8 : (stepped (code [0x36, 0x5A] { State.reset with h := 0xC0, l := 0x10 })).lookup 0xC010 = .byte 0x5A ∧
    (stepped (code [0x36, 0x5A] { State.reset with h := 0x40 })).fault = some (.unmappedAddress 0x4000 .write) ∧
    (stepped (code [0x36, 0x5A] { State.reset with h := 0x40 })).m = 2 := by decide

theorem test_ld_rr_d16 : (stepped (code [0x01, 0xAB, 0xCD])).b = 0xAB ∧ (stepped (code [0x01, 0xAB, 0xCD])).c = 0xCD ∧
    (stepped (code [0x31, 0xAB, 0xCD])).sp = 0xABCD := by decide

theorem test_ld_rr_d16_lowFirst :
    (stepped (code [0x31, 0xAB, 0xCD] { State.reset with cfg := { Params.defaultCfg with imm16Order := .lowFirst } })).sp = 0xCDAB := by
  decide

theorem test_ld_r_r : (stepped (code [0x41] { State.reset with c := 0x77 })).b = 0x77 ∧
    (stepped (code [0x6C] { State.reset with h := 0x12, l := 0x34 })).l = 0x12 ∧
    (stepped (code [0x65] { State.reset with h := 0x12, l := 0x34 })).h = 0x34 := by decide

/-- The source register is also the address: H = 0xD0 and L stays. -/
theorem test_ld_h_hl : (stepped ((code [0x66] { State.reset with h := 0xC0, l := 0x10 }).place 0xC010 0xD0)).h = 0xD0 ∧
    (stepped ((code [0x66] { State.reset with h := 0xC0, l := 0x10 }).place 0xC010 0xD0)).l = 0x10 := by decide

theorem test_ld_a_hl_unmapped : (stepped (code [0x7E] { State.reset with h := 0xFE })).fault =
      some (.unmappedAddress 0xFE00 .read) ∧
    (stepped (code [0x7E] { State.reset with h := 0xFE })).m = 1 := by decide

theorem test_ld_hl_r : (stepped (code [0x77] { State.reset with h := 0xC2, l := 0x34, a := 0x42 })).lookup 0xE234 = .byte 0x42 ∧
    (stepped (code [0x74] { State.reset with h := 0xC1, l := 0x23 })).lookup 0xC123 = .byte 0xC1 := by decide

theorem test_ld_a16_a : (stepped (code [0xEA, 0xFF, 0xFF] { State.reset with a := 0x42 })).ieReg = 0x42 ∧
    (stepped (code [0xEA, 0xFF, 0x50] { State.reset with a := 0x42 })).bootDone = true ∧
    (stepped (code [0xEA, 0xC2, 0x34] { State.reset with a := 0x42 })).m = 4 := by decide

theorem test_ld_a16_a_unmapped : (stepped (code [0xEA, 0xFF, 0x45])).fault = some (.unmappedAddress 0xFF45 .write) ∧
    (stepped (code [0xEA, 0xFF, 0x45])).pc = 0xC003 ∧ (stepped (code [0xEA, 0xFF, 0x45])).m = 3 := by decide

theorem test_ld_hl_sp_r8 : (stepped (code [0xF8, 0xFF] { State.reset with sp := 0x0001, f := 0xC0 })).getPair .hl = 0x0000 ∧
    (stepped (code [0xF8, 0xFF] { State.reset with sp := 0x0001, f := 0xC0 })).f = 0x30 ∧
    (stepped (code [0xF8, 0xFF] { State.reset with sp := 0x0001 })).m = 3 := by decide

theorem test_ld_hl_sp_r8_negative : (stepped (code [0xF8, 0x80] { State.reset with sp := 0x0080 })).getPair .hl = 0x0000 ∧
    (stepped (code [0xF8, 0x80] { State.reset with sp := 0x0080 })).f = 0x10 := by decide

/-! ## Arithmetic (section 2.3): A, B, F before 0xF0; A and F after -/

/-- A register-form operation on A and B. -/
def ab (op a b : Byte) : Byte × Byte :=
  let t := stepped (code [op] { State.reset with a := a, b := b, f := 0xF0 })
  (t.a, t.f)

theorem test_add : ab 0x80 0x3A 0xC6 = (0x00, 0xB0) ∧ ab 0x80 0xFF 0xFF = (0xFE, 0x30) := by decide
theorem test_sub : ab 0x90 0x3E 0x3E = (0x00, 0xE0) ∧ ab 0x90 0x07 0x08 = (0xFF, 0x50) := by decide
theorem test_cp : ab 0xB8 0x3C 0x40 = (0x3C, 0x50) ∧ ab 0xB8 0x3C 0x2F = (0x3C, 0x60) := by decide
theorem test_and : ab 0xA0 0x5A 0xA5 = (0x00, 0x80) ∧ ab 0xA0 0x5A 0x3F = (0x1A, 0x00) := by decide
theorem test_xor : ab 0xA8 0xAA 0x55 = (0xFF, 0x00) ∧ ab 0xA8 0x5A 0x5A = (0x00, 0x80) := by decide
theorem test_or : ab 0xB0 0x80 0x01 = (0x81, 0x00) ∧ ab 0xB0 0x00 0x00 = (0x00, 0x80) := by decide

/-- A as the source, A = 0x88 before. -/
theorem test_alu_a : ab 0x87 0x88 0x00 = (0x10, 0x30) ∧ ab 0x97 0x88 0x00 = (0x00, 0xE0) ∧ ab 0xBF 0x88 0x00 = (0x88, 0xE0) := by
  decide

/-- The immediate and `(HL)` forms on 0xF1 and 0x0F agree. -/
def imm (op : Byte) : Byte × Byte :=
  let t := stepped (code [op, 0x0F] { State.reset with a := 0xF1 })
  (t.a, t.f)

/-- The `(HL)` form. -/
def hl (op : Byte) : Byte × Byte × Nat :=
  let t := stepped ((code [op] { State.reset with a := 0xF1, h := 0xC0, l := 0x10 }).place 0xC010 0x0F)
  (t.a, t.f, t.m)

theorem test_alu_d8 : imm 0xC6 = (0x00, 0xB0) ∧ imm 0xD6 = (0xE2, 0x60) ∧ imm 0xE6 = (0x01, 0x00) ∧ imm 0xEE = (0xFE, 0x00) ∧
    imm 0xF6 = (0xFF, 0x00) ∧ imm 0xFE = (0xF1, 0x60) := by decide

theorem test_alu_hl : hl 0x86 = (0x00, 0xB0, 2) ∧ hl 0x96 = (0xE2, 0x60, 2) ∧ hl 0xA6 = (0x01, 0x00, 2) ∧
    hl 0xAE = (0xFE, 0x00, 2) ∧ hl 0xB6 = (0xFF, 0x00, 2) ∧ hl 0xBE = (0xF1, 0x60, 2) := by decide

/-! ## INC and DEC (sections 1.9, 2.4) -/

/-- INC or DEC of B, F before 0x90. -/
def stepB (op b : Byte) : Byte × Byte :=
  let t := stepped (code [op] { State.reset with b := b, f := 0x90 })
  (t.b, t.f)

theorem test_inc : stepB 0x04 0xFF = (0x00, 0xB0) ∧ stepB 0x04 0x0F = (0x10, 0x20) := by decide
theorem test_dec : stepB 0x05 0x00 = (0xFF, 0x50) ∧ stepB 0x05 0x01 = (0x00, 0xC0) := by decide

theorem test_dec_c_source : (stepped (code [0x0D] { State.reset with c := 0x0F })).f = 0x60 ∧
    (stepped (code [0x0D] { State.reset with c := 0x0E })).f = 0x40 := by decide

theorem test_inc_hl : (stepped ((code [0x34] { State.reset with h := 0xC0, l := 0x10 }).place 0xC010 0xFF)).lookup 0xC010 =
      .byte 0x00 ∧
    (stepped ((code [0x34] { State.reset with h := 0xC0, l := 0x10 }).place 0xC010 0xFF)).f = 0xB0 := by decide

/-- The flags stay written when the store raises. -/
theorem test_inc_hl_rom : (stepped ((code [0x34] { State.reset with h := 0x41 }).place 0x4100 0xFF)).f = 0xB0 ∧
    (stepped ((code [0x34] { State.reset with h := 0x41 }).place 0x4100 0xFF)).fault = some (.unmappedAddress 0x4100 .write) ∧
    (stepped ((code [0x34] { State.reset with h := 0x41 }).place 0x4100 0xFF)).m = 2 := by decide

theorem test_dec_hl : (stepped ((code [0x35] { State.reset with h := 0xC0, l := 0x10 }).place 0xC010 0x0F)).lookup 0xC010 =
      .byte 0x0E ∧
    (stepped ((code [0x35] { State.reset with h := 0xC0, l := 0x10 }).place 0xC010 0x0F)).m = 3 := by decide

/-! ## Stack, CALL, RET, DI, EI (sections 2.5 to 2.7) -/

theorem test_push : (stepped (code [0xC5] { State.reset with b := 0x12, c := 0x34 })).ieReg = 0x12 ∧
    (stepped (code [0xC5] { State.reset with b := 0x12, c := 0x34 })).lookup 0xFFFE = .byte 0x34 ∧
    (stepped (code [0xC5] { State.reset with b := 0x12, c := 0x34 })).sp = 0xFFFE := by decide

/-- The first write lands, the second raises. -/
theorem test_push_second_write : (stepped (code [0xD5] { State.reset with sp := 0x8001, d := 0x12 })).lookup 0x8000 = .byte 0x12 ∧
    (stepped (code [0xD5] { State.reset with sp := 0x8001, d := 0x12 })).sp = 0x7FFF ∧
    (stepped (code [0xD5] { State.reset with sp := 0x8001, d := 0x12 })).m = 3 := by decide

theorem test_pop : (stepped (((code [0xD1] { State.reset with sp := 0xDFFD }).place 0xDFFD 0x34).place 0xDFFE 0x12)).getPair .de =
      0x1234 ∧
    (stepped (((code [0xD1] { State.reset with sp := 0xDFFD }).place 0xDFFD 0x34).place 0xDFFE 0x12)).m = 3 := by decide

theorem test_pop_second_read : (stepped (code [0xC1] { State.reset with sp := 0x9FFF, b := 0x11, c := 0x22 })).getPair .bc =
      0x1122 ∧
    (stepped (code [0xC1] { State.reset with sp := 0x9FFF })).sp = 0xA000 ∧
    (stepped (code [0xC1] { State.reset with sp := 0x9FFF })).m = 2 := by decide

theorem test_call : (stepped (at_ 0x0150 [0xCD, 0xC2, 0x00] { State.reset with sp := 0xDFFF })).pc = 0xC200 ∧
    (stepped (at_ 0x0150 [0xCD, 0xC2, 0x00] { State.reset with sp := 0xDFFF })).lookup 0xDFFD = .byte 0x53 ∧
    (stepped (at_ 0x0150 [0xCD, 0xC2, 0x00] { State.reset with sp := 0xDFFF })).m = 6 := by decide

theorem test_call_raises : (stepped (code [0xCD, 0xC2, 0x00] { State.reset with sp := 0xC001 })).pc = 0xC003 ∧
    (stepped (code [0xCD, 0xC2, 0x00] { State.reset with sp := 0xC001 })).lookup 0xC000 = .byte 0xC0 ∧
    (stepped (code [0xCD, 0xC2, 0x00] { State.reset with sp := 0xC001 })).m = 5 := by decide

theorem test_ret : (stepped (((code [0xC9] { State.reset with sp := 0xDFFD }).place 0xDFFD 0x53).place 0xDFFE 0x01)).pc = 0x0153 ∧
    (stepped (code [0xC9] { State.reset with sp := 0x9FFF })).pc = 0xC001 ∧
    (stepped (code [0xC9] { State.reset with sp := 0x9FFF })).m = 2 := by decide

/-- `FB F3`: the second step has IME = 1 and a pending disable. -/
theorem test_ei_di : (stepped (code [0xFB, 0xF3])).ime = false ∧ (stepped (stepped (code [0xFB, 0xF3]))).ime = true ∧
    (stepped (stepped (code [0xFB, 0xF3]))).pendDi = true ∧ (stepped (stepped (code [0xFB, 0xF3]))).pendEi = false := by decide

/-! ## Dispatch and conditions (section 2.8) -/

theorem test_unimplemented : (stepped State.reset).fault = some (.unimplementedOpcode 0x00) ∧ (stepped State.reset).pc = 0x0001 ∧
    (stepped State.reset).m = 1 ∧ step (stepped State.reset) = .fault (.unimplementedOpcode 0x00) := ⟨rfl, rfl, rfl, rfl⟩

theorem test_extended : (stepped (at_ 0xDFFF [0xCB])).fault = some (.unimplementedExtendedOpcode 0xCB 0x00) ∧
    (stepped (at_ 0xDFFF [0xCB])).pc = 0xE001 ∧
    (stepped (at_ 0x9FFF [0xCB])).fault = some (.unmappedAddress 0xA000 .read) ∧ (stepped (at_ 0x9FFF [0xCB])).pc = 0xA000 := by
  decide

theorem test_fetch_wraps : (stepped (at_ 0xFFFF [0x3E, 0x77])).a = 0x77 ∧ (stepped (at_ 0xFFFF [0x3E, 0x77])).pc = 0x0001 := by
  decide

/-- An opcode fetched from LY is a draw; the step after the fetch depends on it, but PC is past it. -/
theorem test_fetch_draw : fetch8 { State.reset with pc := 0xFF44 } =
    .ok (Config.draw 0) { State.reset with pc := 0xFF45, m := 1, t := 4, draws := 1 } := rfl

/-! ## The bus (sections 1.4, 1.5) -/

/-- A cartridge and a boot image whose first bytes differ. -/
def booted : State :=
  { State.reset with
    cfg := { Params.defaultCfg with cart := [(0x00, 0x55), (0xFF, 0x66), (0x100, 0x77)], boot := some [(0x00, 0xAA), (0xFF, 0xBB)] } }

theorem test_overlay : booted.lookup 0x0000 = .byte 0xAA ∧ booted.lookup 0x00FF = .byte 0xBB ∧ booted.lookup 0x0100 = .byte 0x77 ∧
    booted.store 0xFF50 0x00 = some booted ∧
    ((booted.store 0xFF50 0x80).map fun t => (t.lookup 0x0000, t.lookup 0x00FF)) = some (.byte 0x55, .byte 0x66) := by decide

theorem test_echo : ((State.reset.store 0xFDFF 0x77).map fun t => t.lookup 0xDDFF) = some (.byte 0x77) ∧
    ((State.reset.store 0xDFFF 0x32).map fun t => t.lookup 0xFFFF) = some (.byte 0x00) ∧
    State.reset.lookup 0xFE00 = .unmapped := by decide

/-! ## Another configuration (R4): every expected value from the rule with the changed field put in -/

/-- A reset record whose row at 0xA000 is no cell of memory. -/
def otherReset : ResetRecord :=
  { Params.defaultReset with
    a := 0x01
    n := true
    sp := 0xFFFE
    pc := 0xC000
    pending := some true
    ram := [(0xC000, 0x41), (0xC001, 0x40), (0xA000, 0x99), (0xC002, 0x37)] }

/-- Registers of the PPU and IF at other addresses, another prefix, byte order, borrow formulas, extra cycles and reset record. -/
def otherCfg : Cfg :=
  { Params.defaultCfg with
    prefixByte := 0x40
    imm16Order := .lowFirst
    halfBorrow := .nibbleBelow
    borrow := .listed [(0x0F, 0x01)]
    extraM := [(0x41, 2), (0xC9, 3)]
    addrIf := 0xA000
    addrLcdc := 0xFE00
    addrLy := 0xFF7F
    addrBootOff := 0xBFFF
    apuLo := 0xFF48
    apuHi := 0xFF4F
    reset := otherReset }

theorem test_reset_record : (State.start otherCfg).a = 0x01 ∧ (State.start otherCfg).f = 0x40 ∧
    (State.start otherCfg).pendEi = true ∧ (State.start otherCfg).mem = [(0xC000, 0x41), (0xC001, 0x40), (0xC002, 0x37)] := by
  decide

/-- `LD B,C` with two extra cycles, then the prefix 0x40 and 0x37. -/
theorem test_other_steps : (stepped (State.start otherCfg)).m = 3 ∧ (stepped (State.start otherCfg)).t = 12 ∧
    (stepped (stepped (State.start otherCfg))).fault = some (.unimplementedExtendedOpcode 0x40 0x37) ∧
    (stepped (code [0xCB] (State.start otherCfg))).fault = some (.unimplementedOpcode 0xCB) := by decide

theorem test_other_addresses : (((State.start otherCfg).store 0xFE00 0x5A).map fun t => (t.lcdc, t.lookup 0xFE00)) =
      some (0x5A, .byte 0x5A) ∧
    (((State.start otherCfg).store 0xBFFF 0x01).map fun t => t.bootDone) = some true ∧
    (State.start otherCfg).lookup 0xFF7F = .draw ∧ (State.start otherCfg).lookup 0xFF40 = .unmapped ∧
    (State.start otherCfg).lookup 0xA000 = .byte 0x00 ∧ (State.start otherCfg).lookup 0xFF48 = .byte 0x00 := by decide

/-- DEC C from 0x0F with the conventional half-borrow (H clear) and a borrow on that pair alone. -/
theorem test_other_flags : (stepped (code [0x0D] { State.start otherCfg with c := 0x0F })).f = 0x50 ∧
    (stepped (code [0x0D] { State.start otherCfg with c := 0x10 })).f = 0x60 ∧
    (stepped (code [0x31, 0xAB, 0xCD] (State.start otherCfg))).sp = 0xCDAB := by decide

/-- A pixel whose tile data base lies outside VRAM has no shade. -/
theorem test_pixel_bases : State.pixel { State.reset with lcdc := 0x10, cfg := { Params.defaultCfg with dataBaseU := 0xC000 } } 0 0 =
      none ∧
    State.pixel { State.reset with cfg := { Params.defaultCfg with dataBaseU := 0xC000 } } 0 0 = some 0 := by decide

/-! ## The pixel function (section 2.9) -/

/-- LCDC = 0x10, BGP = 0xE4, tile 0 row 0 = 0x5A, 0x3C. -/
def tiles : State := ((({ State.reset with lcdc := 0x10, bgp := 0xE4 }).place 0x8000 0x5A).place 0x8001 0x3C)

theorem test_pixel_row : (tiles.pixel 0 0, tiles.pixel 1 0, tiles.pixel 2 0, tiles.pixel 3 0, tiles.pixel 7 0) =
    (some 0, some 1, some 2, some 3, some 0) ∧ tiles.pixel 160 0 = none := by decide

/-- Signed mode, index 0xFF is the tile at 0x8FF0; and the last cell of map 0. -/
theorem test_pixel_signed : ((((({ State.reset with bgp := 0xE4 }).place 0x9800 0xFF).place 0x8FF0 0x80))).pixel 0 0 = some 1 ∧
    ((((({ State.reset with lcdc := 0x10, bgp := 0xE4, scx := 96, scy := 112 }).place 0x9BFF 0x03).place 0x803E 0x01).place
      0x803F 0x01)).pixel 159 143 = some 3 := by decide

/-! ## Witnesses: what the hypotheses of the statements are met by -/

/-- A state with HL = 0xC010, SP = 0xD000 and flags, and three bytes of code. -/
def full (b0 b1 b2 : Byte) : State :=
  code [b0, b1, b2] { State.reset with h := 0xC0, l := 0x10, sp := 0xD000, f := 0xF0, b := 0x12, c := 0x34, m := 7, t := 28 }

theorem witness_full_fault_wf : (full 0 0 0).fault = none ∧ Memory.wf (full 1 2 3).mem ∧ (full 1 2 3).Inv := by decide

theorem witness_DecodeEncodeRoundTrip : (Instr.unimplCbF8ToFF 0xFF).wellFormed = true ∧ Instr.unimplCbF8ToFF 0xFF ≠ .prefixByte ∧
    Instr.prefixByte.wellFormed = true ∧ (Instr.callA16 0x12 0x34).wellFormed = true ∧
    (Instr.callA16 0x12 0x34).selectedBy 0x40 = true ∧ (Instr.unimplCbF8ToFF 0xFF).selectedBy 0x40 = true := by decide

theorem witness_DecodedBytesAreTheEncoding : decode [0xCB, 0xFF, 0x00] = .ok (.unimplCbF8ToFF 0xFF, [0x00]) ∧
    decode [0xCB] = .ok (.prefixByte, []) := ⟨rfl, rfl⟩

theorem witness_StepRunsDecodedInstruction : (full 0xCD 0x12 0x34).about (.callA16 0x12 0x34) ∧
    (full 0x41 0 0).cfg.extraM = Params.defaultCfg.extraM ∧ (full 0xCB 0x37 0x00).about (.unimplCb30To37 0x37) ∧
    (stepped State.reset).fault ≠ none ∧ (full 0xCB 0x37 0x00).about .prefixByte ∧ (full 0x41 0 0).fault = none ∧
    (State.start otherCfg).about .ldBC :=
  ⟨⟨rfl, rfl, rfl, rfl, rfl, rfl, trivial⟩, rfl, ⟨rfl, rfl, rfl, rfl, rfl, trivial⟩, by decide,
    ⟨rfl, rfl, rfl, rfl, trivial⟩, rfl, ⟨rfl, rfl, rfl, rfl, trivial⟩⟩

theorem witness_FetchReadsOneByteAtPc : (full 0x40 0 0).lookup (full 0x40 0 0).pc = .byte 0x40 ∧
    ({ State.reset with pc := 0xFF44 } : State).lookup 0xFF44 = .draw ∧
    ({ State.reset with pc := 0xA000 } : State).lookup 0xA000 = .unmapped := by decide

/-- No byte fetched, one of two, two of three. -/
theorem witness_FailedFetchEndsTheStep :
    (State.reset.lookup (0xA000 + BitVec.ofNat 16 0) = .unmapped ∧ 0 < (encode .ret).length) ∧
    ((at_ 0x9FFF [0x3E]).holds 0x9FFF ((encodeWith 0xCB (.ldAD8 0x00)).take 1) ∧ 1 < (encode (.ldAD8 0x00)).length ∧
      (at_ 0x9FFF [0x3E]).lookup (0x9FFF + BitVec.ofNat 16 1) = .unmapped) ∧
    ((at_ 0x9FFE [0xCD, 0x12]).holds 0x9FFE ((encodeWith 0xCB (.callA16 0x12 0x00)).take 2) ∧ 2 < (encode (.callA16 0x12 0x00)).length ∧
      (at_ 0x9FFE [0xCD, 0x12]).lookup (0x9FFE + BitVec.ofNat 16 2) = .unmapped) ∧
    (at_ 0x9FFE [0xCD, 0x12]).fault = none ∧ (Instr.callA16 0x12 0x00).wellFormed = true ∧
    (Instr.callA16 0x12 0x00).selectedBy 0xCB = true :=
  ⟨⟨rfl, by decide⟩, ⟨⟨rfl, trivial⟩, by decide, rfl⟩, ⟨⟨rfl, rfl, trivial⟩, by decide, rfl⟩, rfl, rfl, rfl⟩

theorem witness_StepFaultsExactlyWhenLatched : (stepped State.reset).fault = some (.unimplementedOpcode 0x00) ∧
    step (stepped State.reset) = .fault (.unimplementedOpcode 0x00) := ⟨rfl, rfl⟩

theorem witness_EveryInstructionAnswersNext : State.reset.fault = none := rfl

/-- A step that answers a next state, from a state with the invariant and a pending enable, and one that raises. -/
theorem witness_step_next : step (full 0xC5 0 0) = .next (stepped (full 0xC5 0 0)) ∧
    step { full 0xC5 0 0 with pendEi := true } = .next (stepped { full 0xC5 0 0 with pendEi := true }) ∧
    step State.reset = .next (stepped State.reset) := ⟨rfl, rfl, rfl⟩

theorem witness_TogglesTakeEffectOneStepLater : (full 0xF3 0x40 0).about .di ∧ (full 0xFB 0x40 0).about .ei ∧
    step (stepped (full 0xFB 0xF3 0)) = .next (stepped (stepped (full 0xFB 0xF3 0))) ∧
    (stepped (stepped (full 0xFB 0xF3 0))).ime = true ∧ (stepped (stepped (stepped (full 0xFB 0xF3 0x41)))).ime = false :=
  ⟨⟨rfl, rfl, rfl, rfl, trivial⟩, ⟨rfl, rfl, rfl, rfl, trivial⟩, rfl, rfl, rfl⟩

theorem witness_OverlayStaysOff : ({ full 0x40 0x40 0x40 with bootDone := true } : State).bootDone = true ∧
    Host.Core.run core 2 { full 0x40 0x40 0x40 with bootDone := true } =
      .next (stepped (stepped { full 0x40 0x40 0x40 with bootDone := true })) ∧
    (0x00FF : Word).toNat ≤ 0x00FF := ⟨rfl, rfl, by decide⟩

theorem witness_CompletedInstructionCost : (full 0xCD 0xC2 0x00).about (.callA16 0xC2 0x00) ∧
    (stepped (full 0xCD 0xC2 0x00)).fault = none ∧ (full 0xF8 0x01 0).about (.ldHlSpR8 0x01) ∧
    (stepped (full 0xF8 0x01 0)).fault = none ∧ (stepped (State.start otherCfg)).fault = none :=
  ⟨⟨rfl, rfl, rfl, rfl, rfl, rfl, trivial⟩, rfl, ⟨rfl, rfl, rfl, rfl, rfl, trivial⟩, rfl, rfl⟩

/-- For the frames: instructions that answer a next state, registers outside and inside the destinations, flag writers and
others, forms that store and forms that do not, and an address a store leaves alone. -/
theorem witness_frames : (∃ t, exec .addAB (full 0 0 0) = .next t ∧ t.fault = none) ∧ Reg8.b ∉ destRegs Instr.addAB.opcode ∧
    writesFlags Instr.addAB.opcode = true ∧ (full 0 0 0).fault = none ∧
    writesFlags Instr.ldBC.opcode = false ∧ Instr.addAB.opcode ∉ ([0x31, 0xC5, 0xCD, 0xC9] : List Byte) ∧
    storeAddresses .addAB (full 0 0 0) = [] ∧ storeAddresses .pushBc (full 0 0 0) = [0xCFFF, 0xCFFE] :=
  ⟨⟨_, rfl, rfl⟩, by decide, by decide, by decide, by decide, by decide, rfl, rfl⟩

theorem witness_untouched : ¬touches Params.defaultCfg 0xCFFF 0xC000 ∧ ¬touches Params.defaultCfg 0xCFFE 0xC000 ∧
    ¬touches Params.defaultCfg 0xFF50 0x0100 ∧ ¬touches Params.defaultCfg 0xDE00 0xFE00 ∧
    touches Params.defaultCfg 0xC000 0xE000 ∧ touches Params.defaultCfg 0xFF50 0x00FF ∧
    Params.defaultCfg.addrBootOff ∉ storeAddresses .pushBc (full 0 0 0) :=
  ⟨by decide, by decide, by decide, by decide, by decide, by decide, by decide⟩

/-- Both ends of every range of storage, at the default and at another configuration. -/
theorem witness_StorageReadsBackWhatIsWritten : Memory.wf State.reset.mem ∧
    (∀ a ∈ ([0x8000, 0x9FFF, 0xC000, 0xFDFF, 0xFF0F, 0xFF10, 0xFF3F, 0xFF40, 0xFF43, 0xFF47, 0xFF80, 0xFFFE, 0xFFFF] : List Word),
      keepsWrites Params.defaultCfg a) ∧
    (∀ a ∈ ([0xA000, 0xFE00, 0xFF48, 0xFF4F] : List Word), keepsWrites otherCfg a) := by
  refine ⟨by decide, ?_, ?_⟩ <;>
    simp [keepsWrites, plainRegisters, inApu, isRegisterRange, otherCfg, Params.defaultCfg]

theorem witness_StoreChangesOnlyItsByte : (State.reset.store 0xC010 0x5A).isSome = true ∧
    (State.reset.store 0xFF50 0x01).isSome = true ∧ ¬touches State.reset.cfg 0xC010 0xC011 := by decide

theorem witness_EchoWindowIsWorkRam : 0x1DFF < 0x1E00 ∧ (State.reset.store 0xDE00 0x01).isSome = true ∧
    (State.reset.store 0xDFFF 0x01).isSome = true ∧ 0xDE00 ≤ (0xDE00 : Word).toNat ∧ (0xDFFF : Word).toNat ≤ 0xDFFF ∧
    (0xFE00 : Word) ≠ 0xDE00 := by decide

theorem witness_RomWrites : (0x3FFF : Word).toNat ≤ 0x3FFF ∧ 0x4000 ≤ (0x4000 : Word).toNat ∧
    (0x7FFF : Word).toNat ≤ 0x7FFF ∧ State.reset.cfg.romHiWrite = .fault ∧
    ({ State.reset with cfg := { Params.defaultCfg with romHiWrite := .drop } } : State).cfg.romHiWrite = .drop := by decide

/-- The rows are apart at the default and at the other configuration, whose registers stand elsewhere. -/
theorem witness_BootCompleteRegister : (0x80 : Byte) ≠ 0x00 ∧ rowsApart booted.cfg ∧ rowsApart otherCfg ∧
    (booted.store 0xFF50 0x80).isSome = true ∧ ({ booted with bootDone := true } : State).bootDone = true ∧
    (State.store { booted with bootDone := true } 0xFF50 0x00).isSome = true ∧ (0x00FF : Word).toNat ≤ 0x00FF := by decide

theorem witness_RomReadsFollowTheOverlay : booted.cfg.boot = some [(0x00, 0xAA), (0xFF, 0xBB)] ∧ booted.bootDone = false ∧
    State.reset.cfg.boot = none ∧ ({ booted with bootDone := true } : State).bootDone = true ∧
    0x00FF < (0x0100 : Word).toNat ∧ (0x7FFF : Word).toNat ≤ 0x7FFF := by decide

/-- Both ends of every hole raise, the neighbours do not. -/
theorem witness_UnownedAddressesRaise : (([0xA000, 0xBFFF, 0xFE00, 0xFF0E, 0xFF45, 0xFF46, 0xFF48, 0xFF4F, 0xFF51, 0xFF7F] :
      List Word).all fun a => decide (State.reset.lookup a = .unmapped)) = true ∧
    (([0x0000, 0x7FFF, 0x9FFF, 0xC000, 0xFDFF, 0xFF0F, 0xFF10, 0xFF44, 0xFF47, 0xFF50, 0xFF80, 0xFFFF] :
      List Word).all fun a => decide (State.reset.lookup a ≠ .unmapped)) = true := by decide

theorem witness_ReadsChangeNothing : State.reset.lookup 0xC000 = .byte 0x00 ∧ State.reset.lookup 0xFF44 = .draw ∧
    State.reset.lookup 0xFF50 = .draw ∧ State.reset.lookup 0xBFFF = .unmapped := by decide

theorem witness_LaunchedImageIsRead : (List.replicate 32768 (0x00 : Byte)).length = 32768 ∧
    (List.replicate 256 (0xAA : Byte)).length = 256 ∧ ([] : List Byte).length ≠ 32768 ∧ ([] : List Byte).length ≠ 256 ∧
    (0x00FF : Word).toNat < 256 ∧ 256 ≤ (0x0100 : Word).toNat ∧ (0x7FFF : Word).toNat < 32768 := by
  refine ⟨List.length_replicate, List.length_replicate, ?_⟩
  decide

theorem witness_LoadImmediateByte : (full (0b00#2 ++ Reg8.code .a ++ 0b110#3) 0x42 0).holds 0xC000 [0x3E, 0x42] ∧
    (at_ 0x9FFF [0x3E]).lookup 0x9FFF = .byte (0b00#2 ++ Reg8.code .a ++ 0b110#3) ∧
    (at_ 0x9FFF [0x3E]).lookup (0x9FFF + 1) = .unmapped ∧ (at_ 0x9FFF [0x3E]).fault = none ∧
    (at_ 0x9FFF [0x3E]).cfg.prefixByte ≠ 0b00#2 ++ Reg8.code .a ++ 0b110#3 :=
  ⟨⟨rfl, rfl, trivial⟩, rfl, rfl, rfl, by decide⟩

theorem witness_immediate_order : State.reset.cfg.imm16Order = .highFirst ∧
    ({ State.reset with cfg := { Params.defaultCfg with imm16Order := .lowFirst } } : State).cfg.imm16Order = .lowFirst := by decide

/-- HL reads as a byte, as a draw, and not at all: the forms of LD, ADD to CP, INC and DEC that read at HL. -/
theorem witness_readResult : (full 0 0 0).readResult ((full 0 0 0).getPair .hl) = some (0x00, (full 0 0 0).counted 1) ∧
    ({ State.reset with h := 0xFF, l := 0x44 } : State).readResult 0xFF44 =
      some (Config.draw 0, { State.reset with h := 0xFF, l := 0x44, m := 1, t := 4, draws := 1 }) ∧
    ({ State.reset with h := 0xA0 } : State).readResult (State.getPair { State.reset with h := 0xA0 } .hl) = none ∧
    ({ State.reset with pc := 0xA000 } : State).readResult 0xA000 = none := ⟨rfl, rfl, rfl, rfl⟩

theorem witness_StoreInstructions : takesWrites (full 0 0 0).cfg ((full 0 0 0).getPair .hl) ∧
    (∀ a ∈ ([0x0000, 0x3FFF, 0xFF44, 0xFF50, 0x8000] : List Word), takesWrites Params.defaultCfg a) := by
  refine ⟨by decide, ?_⟩
  simp [takesWrites, keepsWrites, plainRegisters, inApu, isRegisterRange, Params.defaultCfg]

theorem witness_step_forms : keepsWrites (full 0 0 0).cfg ((full 0 0 0).getPair .hl) ∧
    (full 0 0 0).lookup ((full 0 0 0).getPair .hl) = .byte 0x00 := by decide

/-- The second operand of each form, and a byte at HL in storage. -/
theorem witness_ArithmeticLaws : aluOperand .addAB .add (full 0 0 0) 0x12 ∧ aluOperand (.cpD8 0x34) .cp (full 0 0 0) 0x34 ∧
    aluOperand .cpAtHl .cp (full 0 0 0) 0x00 ∧ (full 0 0 0).lookup ((full 0 0 0).getPair .hl) = .byte 0x00 ∧
    keepsWrites (full 0 0 0).cfg ((full 0 0 0).getPair .hl) ∧ Memory.wf (full 0 0 0).mem ∧ Reg8.b ≠ .a ∧
    (full 0 0 0).readResult ((full 0 0 0).getPair .hl) = some (0x00, (full 0 0 0).counted 1) :=
  ⟨.inl ⟨.b, rfl, rfl⟩, .inr (.inl rfl), .inr (.inr ⟨rfl, _, rfl⟩), rfl, by decide, by decide, by decide, rfl⟩

/-- The source's data points are met by the default formula and by others, and not by every one. -/
theorem witness_DecrementResult : FlagFormula.addShaped.eval 0x0F 1 = true ∧ FlagFormula.addShaped.eval 0x0E 1 = false ∧
    (FlagFormula.listed [(0x0F, 1)]).eval 0x0F 1 = true ∧ (FlagFormula.listed [(0x0F, 1)]).eval 0x0E 1 = false ∧
    FlagFormula.nibbleBelow.eval 0x0F 1 = false := by decide

/-- Two plain bytes at SP, also with SP at the top of the address space. -/
theorem witness_pop : (full 0 0 0).lookup (full 0 0 0).sp = .byte 0x00 ∧
    (full 0 0 0).lookup ((full 0 0 0).sp + 1) = .byte 0x00 ∧ State.reset.lookup 0xFFFF = .byte 0x00 ∧
    State.reset.lookup (0xFFFF + 1) = .byte 0x00 := by decide

/-- Both stack bytes in storage: in work RAM, and from SP = 0x0000 in IE and high RAM. -/
theorem witness_stack_storage : keepsWrites (full 0 0 0).cfg ((full 0 0 0).sp - 1) ∧
    keepsWrites (full 0 0 0).cfg ((full 0 0 0).sp - 2) ∧ keepsWrites State.reset.cfg (State.reset.sp - 1) ∧
    keepsWrites State.reset.cfg (State.reset.sp - 2) := by decide

/-- The step of a CALL to 0xC100 reaches a RET there, in either order of the target's bytes. -/
theorem witness_CallThenReturnRestores : (full 0xCD 0xC1 0x00).about (.callA16 0xC1 0x00) ∧
    (full 0xCD 0xC1 0x00).cfg.prefixByte ≠ 0xC9 ∧ (full 0xCD 0xC1 0x00).cfg.imm16Order = .highFirst ∧
    (full 0xCD 0xC1 0x00).cfg.extraM = Params.defaultCfg.extraM ∧
    (stepped ((full 0xCD 0xC1 0x00).place 0xC100 0xC9)).lookup (stepped ((full 0xCD 0xC1 0x00).place 0xC100 0xC9)).pc =
      .byte 0xC9 ∧
    (stepped ({ full 0xCD 0x00 0xC1 with cfg := { Params.defaultCfg with imm16Order := .lowFirst } }.place 0xC100 0xC9)).pc =
      0xC100 := ⟨⟨rfl, rfl, rfl, rfl, rfl, rfl, trivial⟩, by decide, rfl, rfl, rfl, rfl⟩

theorem witness_UnimplementedPrimaryEntriesRaise : ((0x76, .unimpl76) : Byte × Instr) ∈ Instr.unimplementedEntries ∧
    (full 0x76 0 0).lookup 0xC000 = .byte 0x76 ∧ ((0xFF, .unimplFF) : Byte × Instr) ∈ Instr.unimplementedEntries ∧
    (full 0x76 0 0).cfg.prefixByte ≠ 0x76 ∧ otherCfg.prefixByte ≠ 0xCB ∧
    (code [0xCB] (State.start otherCfg)).lookup 0xC000 = .byte 0xCB := by decide

theorem witness_UnimplementedExtendedEntriesRaise : encode (.unimplCb30To37 0x37) = [0xCB, 0x37] ∧
    (full 0xCB 0x37 0).holds 0xC000 [0xCB, 0x37] ∧
    (full 0xCB 0x37 0).readResult 0xC000 = some (0xCB, (full 0xCB 0x37 0).counted 1) :=
  ⟨rfl, ⟨rfl, rfl, trivial⟩, rfl⟩

theorem witness_pixel : 255 < 256 ∧ tiles.lcdc.getLsbD tiles.cfg.lcdcDataBit = true ∧
    State.reset.lcdc.getLsbD State.reset.cfg.lcdcDataBit = false ∧ 7 < 8 ∧ tiles.cfg.defaultBases ∧ isVram (tiles.mapAddress 0 0) ∧
    isVram (tiles.tileAddress 0xFF + 2 * 7) ∧ isVram (tiles.tileAddress 0xFF + 2 * 7 + 1) ∧ ¬ isVram 0xA000 := by decide

/-- Two different states that agree on what the pixel function reads. -/
theorem witness_PixelReadsOnlyThePpu : ({ tiles with a := 0x42, stat := 0xFF, pc := 0x1234 } : State) ≠ tiles ∧
    ({ tiles with a := 0x42, stat := 0xFF, pc := 0x1234 } : State).mem = tiles.mem ∧ 159 < tiles.cfg.screenW ∧
    143 < tiles.cfg.screenH ∧ Cfg.samePixels { tiles.cfg with prefixByte := 0x40 } tiles.cfg :=
  ⟨by decide, rfl, by decide, by decide, rfl, rfl, rfl, rfl, rfl, rfl, rfl, rfl⟩

end Sys2Proof.Tests
end

section
/-! SUPPORT. The memory family: echo RAM as work RAM (R70), and writes to the low half of ROM (R66). -/

namespace Sys2Proof.Machine

/-! ## Bytes of RAM, by the cell that owns them -/

theorem State.lookup_of_ram {s : State} {a : Word} {k : Nat} (h : s.ownerOf a = .ram k) :
    s.lookup a = .byte (Memory.readByte s.mem k) := State.lookup_of h

theorem State.store_of_ram {s : State} {a : Word} {k : Nat} (v : Byte) (h : s.ownerOf a = .ram k) :
    s.store a v = some { s with mem := Memory.writeByte s.mem k v } := by
  rw [State.store, h]

/-- Writing a cell moves no address to another owner. -/
theorem State.ownerOf_writeCell (s : State) (mem : Memory) (a : Word) :
    State.ownerOf { s with mem := mem } a = s.ownerOf a := rfl

/-- A byte written into a cell is read at every address the cell owns (R63, R70). -/
theorem State.lookup_writeCell {s : State} {a : Word} {k : Nat} (v : Byte) (hw : Memory.wf s.mem)
    (h : s.ownerOf a = .ram k) :
    State.lookup { s with mem := Memory.writeByte s.mem k v } a = .byte v := by
  rw [State.lookup_of_ram ((State.ownerOf_writeCell s _ a).trans h), Memory.readByte_writeByte_self s.mem k v hw]

/-! ## Echo RAM (R70) -/

theorem State.ownerOf_workRam (s : State) {k : Nat} (hk : k < 0x1E00) :
    s.ownerOf (0xC000 + BitVec.ofNat 16 k) = .ram (0xC000 + k) := by
  have ha : (0xC000 + BitVec.ofNat 16 k : Word).toNat = 0xC000 + k := by bv_omega
  rw [State.ownerOf, ha, owner_wram (by omega)]

theorem State.ownerOf_echoRam (s : State) {k : Nat} (hk : k < 0x1E00) :
    s.ownerOf (0xE000 + BitVec.ofNat 16 k) = .ram (0xC000 + k) := by
  have ha : (0xE000 + BitVec.ofNat 16 k : Word).toNat = 0xE000 + k := by bv_omega
  rw [State.ownerOf, ha, owner_echo (by omega), show 0xE000 + k - 0x2000 = 0xC000 + k by omega]

/-- The top 512 bytes of work RAM have no echo: a store there touches its own address alone (R70). -/
theorem not_touches_of_workRamTop (cfg : Cfg) {a b : Word} (hlo : 0xDE00 ≤ a.toNat) (hhi : a.toNat ≤ 0xDFFF)
    (hb : b ≠ a) : ¬ touches cfg a b := by
  rintro (h | h | ⟨-, h, -⟩)
  · exact hb h
  · unfold echoes at h
    omega
  · unfold isRegisterRange at h
    omega

/-- Settles O28: the router gives both windows the same cell, and a store at 0xDE00..0xDFFF touches no other address. -/
theorem echoWindowIsWorkRam : Obligations.EchoWindowIsWorkRam := by
  refine ⟨fun s k v hk => ?_, fun s t a v hlo hhi h b hb => ?_⟩
  · have hw := State.ownerOf_workRam s hk
    have he := State.ownerOf_echoRam s hk
    refine ⟨?_, ?_, fun hwf => ⟨_, State.store_of_ram v he, ?_, ?_⟩⟩
    · rw [State.lookup_of_ram he, State.lookup_of_ram hw]
    · rw [State.store_of_ram v he, State.store_of_ram v hw]
    · exact State.lookup_writeCell v hwf hw
    · exact State.lookup_writeCell v hwf he
  · exact State.lookup_store_of_not_touches h (not_touches_of_workRamTop s.cfg hlo hhi hb)

/-! ## Writes to the low half of ROM (R66) -/

theorem State.store_lowRom (s : State) {a : Word} (v : Byte) (h : a.toNat ≤ 0x3FFF) : s.store a v = some s := by
  rcases owner_low (cfg := s.cfg) (overlay := s.overlay) h with ho | ⟨ho, -⟩ <;>
    rw [State.store, State.ownerOf, ho]

/-- Settles O29: the low half belongs to the cartridge or to the boot image, and both drop a store. -/
theorem lowRomWritesAreDropped : Obligations.LowRomWritesAreDropped := by
  intro s a v h
  have hs := State.store_lowRom s v h
  refine ⟨hs, ?_, ?_⟩
  · rw [memWrite, hs]
  · rw [wr8_eq, hs]
    rfl

end Sys2Proof.Machine
end

section
/-! SUPPORT. The dispatch family: resolve comes first in a step and is the only writer of IME (R141). -/

namespace Sys2Proof.Machine

/-- Resolve leaves nothing pending, so a second one changes nothing (R141). -/
@[simp] theorem State.resolve_resolve (s : State) : s.resolve.resolve = s.resolve := rfl

/-- With a condition latched the step answers it again, before it resolves anything (R275). -/
theorem step_of_fault {s : State} {e : Fault} (h : s.fault = some e) : step s = .fault e := by
  unfold step runStep
  rw [h]

/-- A step looks at the pending flags and at IME through resolve alone (R140, R141). -/
theorem step_resolve (s : State) : step s.resolve = step s := by
  cases hf : s.fault with
  | some e => rw [step_of_fault (s.resolve_fault.trans hf), step_of_fault hf]
  | none => rw [step_of_no_fault (s.resolve_fault.trans hf), step_of_no_fault hf, State.resolve_resolve]

/-- Settles O11: resolve by its definition, the step by resolve being idempotent, IME by what every step keeps of the resolved
state. -/
theorem resolveRunsFirstAndAloneWritesIme : Obligations.ResolveRunsFirstAndAloneWritesIme :=
  ⟨fun _ => rfl, fun s => (step_resolve s).symm, fun _ _ h => (step_keeps h).ime⟩

end Sys2Proof.Machine
end

section
/-! SUPPORT. The stack and control family: a step with no condition latched answers a next state and settles IME (R141), and the
steps of DI and EI (R226, R227). -/

namespace Sys2Proof.Machine

/-! ## Totality (R9) -/

/-- Every meaning answers a next state: it ends in one outright or through `Res.finish`. -/
theorem exec_next (i : Instr) (s : State) : ∃ t, exec i s = .next t := by
  cases instrForm i with
  | ldRegImm8 r d8 => exact ⟨_, exec_ldRegImm8 s r d8⟩
  | ldPairImm16 p b1 b2 => exact ⟨_, exec_ldPairImm16 s p b1 b2⟩
  | ldRegReg r r' => exact ⟨_, exec_ldRegReg s r r'⟩
  | aluReg op r => exact ⟨_, exec_aluReg s op r⟩
  | aluImm8 op d8 => exact ⟨_, exec_aluImm8 s op d8⟩
  | incReg r => exact ⟨_, exec_incReg s r⟩
  | decReg r => exact ⟨_, exec_decReg s r⟩
  | ldSpD16 | ldHlSpR8 | di | ei => exact ⟨_, rfl⟩
  | ldRegAtHl r => rw [exec_ldRegAtHl]; exact Res.finish_next _
  | ldAtHlReg r => rw [exec_ldAtHlReg]; exact Res.finish_next _
  | aluAtHl op => rw [exec_aluAtHl]; exact Res.finish_next _
  | pushPair p => rw [exec_pushPair]; exact Res.finish_next _
  | popPair p => rw [exec_popPair]; exact Res.finish_next _
  | ldAtHlD8 | ldAtA16A | incAtHl | decAtHl | callA16 | ret => exact Res.finish_next _
  | prefixByte => rw [exec_prefixByte]; cases s.lookup s.pc <;> exact ⟨_, rfl⟩
  | unimplemented op _ _ _ hx => exact ⟨_, congrFun hx s⟩
  | extended op2 _ _ hx => exact ⟨_, congrFun hx s⟩

/-- The end of a step turns a next state into a next state. -/
theorem endStep_next_of_next (i : Instr) (u : State) : ∃ t, endStep i (.next u) = .next t := by
  cases hf : u.fault with
  | none => exact ⟨_, endStep_ok hf⟩
  | some e => exact ⟨_, endStep_raised hf⟩

/-- A step with no condition latched answers a next state, whatever it runs (R140). -/
theorem step_next_of_no_fault {s : State} (h : s.fault = none) : ∃ t, step s = .next t := by
  rw [step_of_no_fault h]
  cases fetchInstr s.resolve with
  | ok i u =>
    obtain ⟨w, hw⟩ := exec_next i u
    simp only [hw]
    exact endStep_next_of_next i w
  | raise e u => exact ⟨_, rfl⟩

/-- Such a step leaves IME at its resolved value (R141). -/
theorem step_settles_ime {s : State} (h : s.fault = none) : ∃ t, step s = .next t ∧ t.ime = s.resolve.ime := by
  obtain ⟨t, ht⟩ := step_next_of_no_fault h
  exact ⟨t, ht, (step_keeps ht).ime⟩

/-! ## The step of an instruction of one opcode byte (R142) -/

/-- An instruction without immediates runs on the state after resolve and the fetch of its one byte. -/
theorem step_of_about_op {s : State} {i : Instr} {op : Byte} (h : s.about i) (he : encode i = [op])
    (ht : primaryTable op = .op i) : step s = endStep i (exec i (s.fetched 1)) := by
  obtain ⟨hfault, hwf, hsel, hbytes⟩ := h
  have hfetch := fetchInstr_of_holds s.resolve i hwf hsel ((State.holds_resolve s _ _).2 hbytes)
  have hop : encodeWith s.resolve.cfg.prefixByte i = [op] := (encodeWith_of_entry he (by rw [ht]; nofun) hsel).1
  rw [hop] at hfetch
  rw [step_of_no_fault hfault]
  generalize fetchInstr s.resolve = r at hfetch
  cases hfetch with
  | whole => rfl
  | extended op2 hb => simp at hb

/-- Where that instruction raises nothing, the step ends in its state with the cycles its meaning left counted (R146). -/
theorem step_of_about_op_next {s u : State} {i : Instr} {op : Byte} (h : s.about i) (he : encode i = [op])
    (ht : primaryTable op = .op i) (hx : exec i (s.fetched 1) = .next u) (hu : u.fault = none) :
    step s = .next (u.tick (restCycles u.cfg i)) := by
  rw [step_of_about_op h he ht, hx, endStep_ok hu]

theorem State.tick_tick (s : State) (j k : Nat) : (s.tick j).tick k = s.tick (j + k) := by
  simp only [State.tick, Nat.mul_add, Nat.add_assoc]

/-! ## DI and EI (R226, R227) -/

/-- The step of an instruction of one byte whose meaning only sets the pending flags: the fetch's cycle and what `cfg.EXTRA_M`
gives its opcode. -/
theorem step_of_toggle {s : State} {i : Instr} {op : Byte} {di ei : Bool} (h : s.about i) (he : encode i = [op])
    (ht : primaryTable op = .op i) (hx : ∀ u : State, exec i u = .next { u with pendDi := di, pendEi := ei })
    (hc : restCycles s.cfg i = s.cfg.extraCycles op) :
    step s = .next (State.counted { s.resolve with pc := s.pc + 1, pendDi := di, pendEi := ei }
      (1 + s.cfg.extraCycles op)) := by
  rw [← hc]
  exact (step_of_about_op_next h he ht (hx _) h.1).trans (congrArg Host.Outcome.next
    (State.tick_tick { s.resolve with pc := s.pc + 1, pendDi := di, pendEi := ei } 1 (restCycles s.cfg i)))

/-- Settles O12: the step of each toggle, then the resolve of the step after it. -/
theorem togglesTakeEffectOneStepLater : Obligations.TogglesTakeEffectOneStepLater := by
  refine ⟨rfl, rfl, fun s => ⟨rfl, rfl, fun h => ⟨?_, ?_⟩, fun h => ⟨?_, ?_⟩⟩⟩
  · exact step_of_toggle h rfl rfl (fun _ => rfl) rfl
  · exact step_settles_ime h.1
  · exact step_of_toggle h rfl rfl (fun _ => rfl) rfl
  · exact step_settles_ime h.1

end Sys2Proof.Machine
end

section
/-! SUPPORT. The encoding family: decoding and encoding are inverse to each other under every `cfg.PREFIX` (R110, R119, R122), and
the field patterns of R111. -/

set_option Elab.async false

namespace Sys2Proof.Machine

/-! ## From the bytes of an instruction to the instruction and back -/

/-- The bytes of every format decode to their instruction, whatever follows them; only after the lone prefix byte nothing may
follow. -/
theorem EncodedWith.decodeWith_append {p : Byte} {i : Instr} {bytes rest : List Byte} (h : EncodedWith p i bytes)
    (hr : i ≠ .prefixByte ∨ rest = []) : decodeWith p (bytes ++ rest) = .ok (i, rest) := by
  cases h with
  | op o hp ht => exact decodeWith_op hp ht rest
  | imm8 o make b1 hp ht hi => exact hi ▸ decodeWith_imm8 hp ht b1 rest
  | imm16 o make b1 b2 hp ht hi => exact hi ▸ decodeWith_imm16 hp ht b1 b2 rest
  | alone hi =>
    obtain rfl := hr.resolve_left (absurd hi.symm)
    exact hi ▸ decodeWith_alone p
  | extended op2 hi => exact hi ▸ decodeWith_extended p op2 rest

/-- An instruction of an entry outside the extended table is selected under every prefix but its own opcode byte, and keeps its
bytes. -/
theorem encodeWith_of_encode {p op : Byte} {i : Instr} {tl : List Byte} (he : encode i = op :: tl) (hp : op ≠ p)
    (ht : primaryTable op ≠ .extended) : i.selectedBy p = true ∧ encodeWith p i = op :: tl := by
  have hs : i.selectedBy p = true := by simp [Instr.selectedBy, Instr.opcode, he, firstByte, hp]
  exact ⟨hs, (encodeWith_of_entry he ht hs).1⟩

/-- Each format belongs to a well-formed and selected instruction, whose bytes it gives (R117, R119). -/
theorem EncodedWith.encodeWith_eq {p : Byte} {i : Instr} {bytes : List Byte} (h : EncodedWith p i bytes) :
    i.wellFormed = true ∧ i.selectedBy p = true ∧ encodeWith p i = bytes := by
  cases h with
  | op o hp ht =>
    have ho := entryOk o
    rw [EntryOk, ht] at ho
    exact ⟨ho.2.1, encodeWith_of_encode ho.1 hp (by rw [ht]; nofun)⟩
  | imm8 o make b1 hp ht hi =>
    have ho := entryOk o
    rw [EntryOk, ht] at ho
    obtain ⟨he, hw⟩ := ho b1
    exact hi ▸ ⟨hw, encodeWith_of_encode he hp (by rw [ht]; nofun)⟩
  | imm16 o make b1 b2 hp ht hi =>
    have ho := entryOk o
    rw [EntryOk, ht] at ho
    obtain ⟨he, hw⟩ := ho b1 b2
    exact hi ▸ ⟨hw, encodeWith_of_encode he hp (by rw [ht]; nofun)⟩
  | alone hi => exact hi ▸ ⟨rfl, rfl, rfl⟩
  | extended op2 hi =>
    obtain ⟨he, hw⟩ := extendedTable_ok op2
    have ho : (extendedTable op2).opcode = prefixCode := by rw [Instr.opcode, he]; rfl
    exact hi ▸ ⟨hw, by simp [Instr.selectedBy, ho], by rw [encodeWith, if_pos ho, he]; rfl⟩

/-- What decodes begins with bytes of one of the formats (R110, R142). -/
theorem encodedWith_of_decodeWith {p : Byte} {bytes rest : List Byte} {i : Instr}
    (h : decodeWith p bytes = .ok (i, rest)) : ∃ e, EncodedWith p i e ∧ bytes = e ++ rest := by
  cases bytes with
  | nil => cases h
  | cons op tl =>
    by_cases hp : op = p
    · subst hp
      cases tl with
      | nil => rw [decodeWith_alone] at h; cases h; exact ⟨_, .alone rfl, rfl⟩
      | cons op2 tl => rw [decodeWith_extended] at h; cases h; exact ⟨_, .extended op2 rfl, rfl⟩
    · simp only [decodeWith, if_neg hp] at h
      cases ht : primaryTable op with
      | op j => rw [ht] at h; cases h; exact ⟨_, .op op hp ht, rfl⟩
      | imm8 make =>
        rw [ht] at h
        match tl, h with
        | b1 :: tl, h => cases h; exact ⟨_, .imm8 op make b1 hp ht rfl, rfl⟩
      | imm16 make =>
        rw [ht] at h
        match tl, h with
        | b1 :: b2 :: tl, h => cases h; exact ⟨_, .imm16 op make b1 b2 hp ht rfl, rfl⟩
      | extended => rw [ht] at h; cases h

/-- Settles O1: the encoding of a selected instruction has one of the formats, and each format decodes to its instruction. -/
theorem decodeEncodeRoundTrip : Obligations.DecodeEncodeRoundTrip := by
  refine ⟨fun p i hw hs => ?_, fun i => ⟨(encodeWith_default i).2, (encodeWith_default i).1, fun _ => rfl⟩⟩
  have he := encodedWith p i hw hs
  exact ⟨by simpa using he.decodeWith_append (.inr rfl), fun hi rest => he.decodeWith_append (.inl hi)⟩

/-- Settles O2: what decodes begins with bytes of one of the formats, and each format is the encoding of its instruction. -/
theorem decodedBytesAreTheEncoding : Obligations.DecodedBytesAreTheEncoding := by
  intro p bytes i rest h
  obtain ⟨e, he, hb⟩ := encodedWith_of_decodeWith h
  obtain ⟨hw, hs, heq⟩ := he.encodeWith_eq
  exact ⟨hw, hs, by rw [heq, hb]⟩

/-! ## The tables of R111 and R115 -/

/-- Settles O3: at each value of its fields an opcode byte is a numeral, whose entry of the table is the instruction's. -/
theorem opcodeFieldsSelectTheInstruction : Obligations.OpcodeFieldsSelectTheInstruction := by
  refine ⟨?ldPairImm16, fun _ _ _ => rfl, ?incReg, fun _ => rfl, ?decReg, fun _ => rfl, ?ldRegImm8, fun _ _ => rfl, ?ldRegReg,
    ?ldRegAtHl, ?ldAtHlReg, ?aluReg, ?aluAtHl, ?aluImm8, ?popPair, ?pushPair, fun _ => rfl, fun _ _ _ => rfl, fun _ _ _ => rfl,
    fun _ => rfl, fun _ _ => rfl, fun _ => rfl, rfl, fun _ _ => rfl⟩
  case ldPairImm16 => intro p rest b1 b2; cases p <;> rfl
  case incReg => intro r rest; cases r <;> rfl
  case decReg => intro r rest; cases r <;> rfl
  case ldRegImm8 => intro r d8 rest; cases r <;> rfl
  case ldRegReg => intro r r' rest; cases r <;> cases r' <;> rfl
  case ldRegAtHl => intro r rest; cases r <;> rfl
  case ldAtHlReg => intro r rest; cases r <;> rfl
  case aluReg => intro op r rest; cases op <;> cases r <;> rfl
  case aluAtHl => intro op rest; cases op <;> rfl
  case aluImm8 => intro op d8 rest; cases op <;> rfl
  case popPair => intro p rest; cases p <;> rfl
  case pushPair => intro p rest; cases p <;> rfl

/-- Settles O4: each word by its entry of the table. -/
theorem workedWordsDecode : Obligations.WorkedWordsDecode := by
  refine ⟨?_, ?_, ?_, ?_, ?_, ?_, ?_, ?_, ?_, ?_, ?_, ?_, ?_, ?_, ?_, ?_, ?_, ?_, ?_, ?_, ?_, ?_, ?_, ?_⟩ <;> rfl

/-- The bytes an entry takes, its opcode byte among them (R111). -/
def entryLength : Entry → Nat
  | .op _ => 1
  | .imm8 _ => 2
  | .imm16 _ => 3
  | .extended => 2

theorem entryLength_bounds (e : Entry) : 1 ≤ entryLength e ∧ entryLength e ≤ 3 := by
  cases e <;> simp [entryLength]

/-- Settles O5: the length is that of the entry the first byte selects. -/
theorem lengthFollowsFirstByte : Obligations.LengthFollowsFirstByte := by
  intro op
  have hok := entryOk op
  obtain ⟨hlo, hhi⟩ := entryLength_bounds (primaryTable op)
  refine ⟨entryLength (primaryTable op), hlo, hhi, fun b1 b2 rest => ?_⟩
  unfold EntryOk at hok
  have hne (h : primaryTable op ≠ .extended) : op ≠ prefixCode := fun e => h (primaryTable_extended.2 e)
  cases ht : primaryTable op <;> rw [ht] at hok hne
  case op i => exact ⟨i, decodeWith_op (hne nofun) ht _, congrArg List.length hok.1⟩
  case imm8 make => exact ⟨make b1, decodeWith_imm8 (hne nofun) ht b1 _, congrArg List.length (hok b1).1⟩
  case imm16 make => exact ⟨make b1 b2, decodeWith_imm16 (hne nofun) ht b1 b2 _, congrArg List.length (hok b1 b2).1⟩
  case extended =>
    obtain rfl : op = prefixCode := hok
    exact ⟨extendedTable b1, decodeWith_extended _ b1 _, congrArg List.length (extendedTable_ok b1).1⟩

end Sys2Proof.Machine
end

section
/-! SUPPORT. The family of whole-machine rules: what every step keeps (R21, R28, R29, R30, R32), and the outcomes of a step (R9). -/

set_option Elab.async false

namespace Sys2Proof.Machine

/-! ## Invariants of a step and of a run -/

/-- Settles O13: resolve clears both pending flags, and the rest of the step keeps each part of the invariant. -/
theorem stepKeepsInvariant : Obligations.StepKeepsInvariant := by
  rintro s t ⟨hf, -, ht, hwf, hcells⟩ h
  have hk := step_keeps h
  refine ⟨hk.f hf, hk.pend (by simp), ?_, hk.wf hwf, hk.cells hcells⟩
  have := hk.t
  simp only [State.resolve_m, State.resolve_t] at this
  omega

theorem State.start_inv (cfg : Cfg) : (State.start cfg).Inv := by
  obtain ⟨hwf, hcells⟩ := Memory.wf_ofCells cfg cfg.reset.ram
  refine ⟨flagByte_low _ _ _ _, ?_, rfl, hwf, hcells⟩
  rcases hp : cfg.reset.pending with _ | _ | _ <;> simp [State.start, hp]

/-- Settles O14: memory built from cells is canonical, and one pending value sets at most one flag. -/
theorem resetMeetsInvariant : Obligations.ResetMeetsInvariant := ⟨State.start_inv _, State.start_inv⟩

theorem step_cfg {s t : State} (h : step s = .next t) : t.cfg = s.cfg := (step_keeps h).cfg

theorem step_bootDone {s t : State} (h : step s = .next t) (hb : s.bootDone = true) : t.bootDone = true :=
  (step_keeps h).boot hb

/-- Settles O16. -/
theorem stepNeverWritesTheImages : Obligations.StepNeverWritesTheImages := fun _ _ => step_cfg

/-- Settles O18: the counters of what every step keeps, those of the resolved state being the state's own. -/
theorem countersGrowTogether : Obligations.CountersGrowTogether := fun _ _ h => ⟨(step_keeps h).m, (step_keeps h).t⟩

/-- A run of one step more is a step and then the run. -/
theorem run_succ {M : Host.Core} {n : Nat} {s t : M.State} (h : M.run (n + 1) s = .next t) :
    ∃ u, M.step s = .next u ∧ M.run n u = .next t := by
  rw [Host.Core.run] at h
  cases hs : M.step s with
  | next u => rw [hs] at h; exact ⟨u, rfl, h⟩
  | fault e => rw [hs] at h; cases h
  | refused r => rw [hs] at h; cases h

/-- What every step keeps of a state and the next, every run keeps of its first and its last. -/
theorem run_keeps {P : State → State → Prop} (refl : ∀ s, P s s) (trans : ∀ s t u, P s t → P t u → P s u)
    (hstep : ∀ s t, step s = .next t → P s t) {n : Nat} {s t : State} (h : Host.Core.run core n s = .next t) : P s t := by
  induction n generalizing s with
  | zero => cases h; exact refl _
  | succ n ih =>
    obtain ⟨u, hu, hrun⟩ := run_succ h
    exact trans _ _ _ (hstep _ _ hu) (ih hrun)

/-- ROM reads as the cartridge wherever the boot image is not visible (R64, R65). -/
theorem State.lookup_cart {s : State} {a : Word} (ha : a.toNat ≤ 0x7FFF) (ho : s.overlay = false ∨ 0x00FF < a.toNat) :
    s.lookup a = .byte (Memory.readByte s.cfg.cart a.toNat) := by
  by_cases hlow : a.toNat ≤ 0x3FFF
  · rcases owner_low (cfg := s.cfg) (overlay := s.overlay) hlow with h | ⟨-, hb, hv⟩
    · exact State.lookup_of h
    · rcases ho with ho | ho
      · rw [ho] at hv; cases hv
      · omega
  · exact State.lookup_of (owner_romHigh (by omega))

theorem State.overlay_of_bootDone {s : State} (hb : s.bootDone = true) : s.overlay = false := by simp [State.overlay, hb]

/-- BOOT_DONE stays set, and the images stay (R30, R32). -/
def KeepsOverlayOff (s t : State) : Prop := (s.bootDone = true → t.bootDone = true) ∧ t.cfg = s.cfg

/-- Settles O17: no step of the run clears BOOT_DONE or writes the configuration. -/
theorem overlayStaysOff : Obligations.OverlayStaysOff := by
  intro n s t a hb h ha
  obtain ⟨hbt, hc⟩ := run_keeps (P := KeepsOverlayOff) (fun _ => ⟨id, rfl⟩)
    (fun _ _ _ h g => ⟨g.1 ∘ h.1, g.2.trans h.2⟩)
    (fun _ _ h => ⟨step_bootDone h, step_cfg h⟩) h
  exact ⟨hbt hb, hc ▸ State.lookup_cart (by omega) (.inl (State.overlay_of_bootDone (hbt hb)))⟩

/-! ## The outcomes of a step -/

/-- Settles O9: a step with no condition latched answers a next state, and no fault. -/
theorem stepFaultsExactlyWhenLatched : Obligations.StepFaultsExactlyWhenLatched := by
  refine fun s e => ⟨fun h => ?_, step_of_fault⟩
  cases hf : s.fault with
  | some e' => rw [step_of_fault hf] at h; cases h; rfl
  | none =>
    obtain ⟨t, ht⟩ := step_next_of_no_fault hf
    rw [ht] at h
    cases h

/-- Settles O10. -/
theorem everyInstructionAnswersNext : Obligations.EveryInstructionAnswersNext := ⟨exec_next, fun _ => step_next_of_no_fault⟩

end Sys2Proof.Machine
end

section
/-! SUPPORT. `exec` of the forms that are a constructor of their own, beside those of the families in Laws/Exec. -/

set_option Elab.async false

namespace Sys2Proof.Machine

variable (s : State)

theorem exec_ldAtHlD8 (d8 : Byte) : exec (.ldAtHlD8 d8) s = storeImm8 d8 s := rfl
theorem exec_ldSpD16 (b1 b2 : Byte) : exec (.ldSpD16 b1 b2) s = loadSpImm16 b1 b2 s := rfl
theorem exec_ldAtA16A (b1 b2 : Byte) : exec (.ldAtA16A b1 b2) s = storeAbsolute b1 b2 s := rfl
theorem exec_ldHlSpR8 (r8 : Byte) : exec (.ldHlSpR8 r8) s = loadHlSpOffset r8 s := rfl
theorem exec_incAtHl : exec .incAtHl s = stepAtHl incOut s := rfl
theorem exec_decAtHl : exec .decAtHl s = stepAtHl (decOut s.cfg) s := rfl
theorem exec_callA16 (b1 b2 : Byte) : exec (.callA16 b1 b2) s = callAbsolute b1 b2 s := rfl
theorem exec_ret : exec .ret s = returnFromCall s := rfl
theorem exec_di : exec .di s = .next { s with pendDi := true, pendEi := false } := rfl
theorem exec_ei : exec .ei s = .next { s with pendEi := true, pendDi := false } := rfl

end Sys2Proof.Machine
end

section
/-! SUPPORT. The noninterference family: IME, F, M and T are written and never read (R27, R28, R277). Two states alike but for these
four take like steps, the four staying in whatever relation counting cycles and writing flags keep. -/

set_option Elab.async false

namespace Sys2Proof.Machine

/-! ## States that differ in IME, F, M and T alone -/

/-- The four fields no instruction reads. -/
structure Unread where
  ime : Bool
  f : Byte
  m : Nat
  t : Nat

def State.unread (s : State) : Unread := ⟨s.ime, s.f, s.m, s.t⟩

def State.withUnread (s : State) (u : Unread) : State := { s with ime := u.ime, f := u.f, m := u.m, t := u.t }

/-- What an instruction does to the four: it counts cycles and writes all of F. -/
structure Preserved (R : Unread → Unread → Prop) : Prop where
  tick (n : Nat) {u w : Unread} : R u w → R { u with m := u.m + n, t := u.t + 4 * n } { w with m := w.m + n, t := w.t + 4 * n }
  flags (x : Byte) {u w : Unread} : R u w → R { u with f := x } { w with f := x }

/-- The second state is the first with other values of the four, which `R` relates to the first's. -/
inductive Alike (R : Unread → Unread → Prop) (s : State) : State → Prop where
  | intro (u : Unread) (h : R s.unread u) : Alike R s (s.withUnread u)

/-- The same of two sub-steps, which give the same value or raise the same condition. -/
inductive ResAlike (R : Unread → Unread → Prop) {α : Type} : Res α → Res α → Prop where
  | ok (v : α) {s t : State} (h : Alike R s t) : ResAlike R (.ok v s) (.ok v t)
  | raise (e : Fault) {s t : State} (h : Alike R s t) : ResAlike R (.raise e s) (.raise e t)

/-- The same of two meanings. -/
inductive OutAlike (R : Unread → Unread → Prop) :
    Host.Outcome State Fault Refusal → Host.Outcome State Fault Refusal → Prop where
  | next {s t : State} (h : Alike R s t) : OutAlike R (.next s) (.next t)

section
variable {R : Unread → Unread → Prop} {s t : State}

/-- An update that neither reads nor writes the four keeps states alike. -/
theorem Alike.map {g : State → State} (h : Alike R s t) (hg : ∀ s u, g (s.withUnread u) = (g s).withUnread u)
    (hu : ∀ s, (g s).unread = s.unread) : Alike R (g s) (g t) := by
  obtain ⟨u, h⟩ := h
  rw [hg]
  exact ⟨u, (hu s).symm ▸ h⟩

theorem Alike.setReg (h : Alike R s t) (r : Reg8) (v : Byte) : Alike R (s.setReg r v) (t.setReg r v) :=
  h.map (g := fun s => s.setReg r v) (fun _ _ => by cases r <;> rfl) (fun _ => by cases r <;> rfl)

theorem Alike.setPair (h : Alike R s t) (p : Pair) (v : Word) : Alike R (s.setPair p v) (t.setPair p v) :=
  h.map (g := fun s => s.setPair p v) (fun _ _ => by cases p <;> rfl) (fun _ => by cases p <;> rfl)

theorem Alike.sp (h : Alike R s t) (v : Word) : Alike R { s with sp := v } { t with sp := v } :=
  h.map (g := fun s => { s with sp := v }) (fun _ _ => rfl) (fun _ => rfl)

theorem Alike.pc (h : Alike R s t) (v : Word) : Alike R { s with pc := v } { t with pc := v } :=
  h.map (g := fun s => { s with pc := v }) (fun _ _ => rfl) (fun _ => rfl)

theorem Alike.draws (h : Alike R s t) (n : Nat) : Alike R { s with draws := n } { t with draws := n } :=
  h.map (g := fun s => { s with draws := n }) (fun _ _ => rfl) (fun _ => rfl)

theorem Alike.pend (h : Alike R s t) (di ei : Bool) :
    Alike R { s with pendDi := di, pendEi := ei } { t with pendDi := di, pendEi := ei } :=
  h.map (g := fun s => { s with pendDi := di, pendEi := ei }) (fun _ _ => rfl) (fun _ => rfl)

theorem Alike.take (h : Alike R s t) (e : Fault) : Alike R (takeCondition e s) (takeCondition e t) :=
  h.map (fun _ _ => rfl) (fun _ => rfl)

theorem Alike.tick (hR : Preserved R) (h : Alike R s t) (n : Nat) : Alike R (s.tick n) (t.tick n) := by
  obtain ⟨u, h⟩ := h
  exact ⟨{ u with m := u.m + n, t := u.t + 4 * n }, hR.tick n h⟩

theorem Alike.setFlags (hR : Preserved R) (h : Alike R s t) (z n hc cy : Bool) :
    Alike R (s.setFlags z n hc cy) (t.setFlags z n hc cy) := by
  obtain ⟨u, h⟩ := h
  exact ⟨{ u with f := flagByte z n hc cy }, hR.flags (flagByte z n hc cy) h⟩

theorem Alike.aluApply (hR : Preserved R) (h : Alike R s t) (op : AluOp) (v : Byte) :
    Alike R (aluApply op v s) (aluApply op v t) := by
  obtain ⟨u, h⟩ := h
  by_cases hw : op.writesA = true
  · simp only [Machine.aluApply, hw, if_true]
    exact (Alike.setFlags hR ⟨u, h⟩ _ _ _ _).setReg _ _
  · simp only [Machine.aluApply, hw]
    exact Alike.setFlags hR ⟨u, h⟩ _ _ _ _

/-- A store reads none of the four. -/
theorem State.store_withUnread (s : State) (u : Unread) (a : Word) (v : Byte) :
    (s.withUnread u).store a v = (s.store a v).map (·.withUnread u) := by
  unfold State.store
  rw [show (s.withUnread u).ownerOf a = s.ownerOf a from rfl, show (s.withUnread u).cfg = s.cfg from rfl]
  cases s.ownerOf a
  case romHigh => cases s.cfg.romHiWrite <;> rfl
  case bootComplete => by_cases hv : v = 0 <;> simp only [hv, if_true, if_false] <;> rfl
  all_goals rfl

/-! ## Sub-steps and meanings of states alike -/

theorem ResAlike.andThen {α β : Type} {r r' : Res α} {k k' : α → State → Res β} (h : ResAlike R r r')
    (hk : ∀ v s t, Alike R s t → ResAlike R (k v s) (k' v t)) : ResAlike R (r.andThen k) (r'.andThen k') := by
  cases h with
  | ok v h => exact hk v _ _ h
  | raise e h => exact .raise e h

theorem ResAlike.finish {r r' : Res Unit} (h : ResAlike R r r') : OutAlike R r.finish r'.finish := by
  cases h with
  | ok v h => exact .next h
  | raise e h => exact .next (h.take e)

theorem rd8_alike (hR : Preserved R) (h : Alike R s t) (a : Word) : ResAlike R (rd8 a s) (rd8 a t) := by
  obtain ⟨u, h⟩ := h
  rw [rd8_eq, rd8_eq, show (s.withUnread u).lookup a = s.lookup a from rfl]
  cases s.lookup a with
  | byte v => exact .ok v (Alike.tick hR ⟨u, h⟩ 1)
  | draw => exact .ok _ (Alike.tick hR (Alike.draws ⟨u, h⟩ _) 1)
  | unmapped => exact .raise _ ⟨u, h⟩

theorem wr8_alike (hR : Preserved R) (h : Alike R s t) (a : Word) (v : Byte) : ResAlike R (wr8 a v s) (wr8 a v t) := by
  obtain ⟨u, h⟩ := h
  rw [wr8_eq, wr8_eq, State.store_withUnread]
  cases hs : s.store a v with
  | none => exact .raise _ ⟨u, h⟩
  | some s' =>
    have hc := State.store_sameCpu hs
    have hu : s'.unread = s.unread := by simp only [State.unread, hc.ime, hc.f, hc.m, hc.t]
    exact .ok () (Alike.tick hR ⟨u, hu ▸ h⟩ 1)

theorem fetch8_alike (hR : Preserved R) (h : Alike R s t) : ResAlike R (fetch8 s) (fetch8 t) := by
  obtain ⟨u, h⟩ := h
  refine (rd8_alike hR ⟨u, h⟩ s.pc).andThen fun v s t h => .ok v ?_
  obtain ⟨u, h⟩ := h
  exact Alike.pc ⟨u, h⟩ _

theorem push16_alike (hR : Preserved R) (h : Alike R s t) (v : Word) : ResAlike R (push16 v s) (push16 v t) := by
  obtain ⟨u, h⟩ := h
  refine (wr8_alike hR (Alike.sp ⟨u, h⟩ _) _ _).andThen fun _ s t h => ?_
  obtain ⟨u, h⟩ := h
  exact wr8_alike hR (Alike.sp ⟨u, h⟩ _) _ _

theorem pop16_alike (hR : Preserved R) (h : Alike R s t) : ResAlike R (pop16 s) (pop16 t) := by
  obtain ⟨u, h⟩ := h
  refine (rd8_alike hR ⟨u, h⟩ s.sp).andThen fun lo s t h => ?_
  obtain ⟨u, h⟩ := h
  refine (rd8_alike hR (Alike.sp ⟨u, h⟩ (s.sp + 1)) _).andThen fun hi s t h => .ok _ ?_
  obtain ⟨u, h⟩ := h
  exact Alike.sp ⟨u, h⟩ _

theorem stepReg_alike (hR : Preserved R) (h : Alike R s t) (out : Byte → AluOut) (r : Reg8) :
    OutAlike R (stepReg out r s) (stepReg out r t) := by
  obtain ⟨u, h⟩ := h
  exact .next ((Alike.setFlags hR ⟨u, h⟩ _ _ _ _).setReg _ _)

theorem stepAtHl_alike (hR : Preserved R) (h : Alike R s t) (out : Byte → AluOut) :
    OutAlike R (stepAtHl out s) (stepAtHl out t) := by
  obtain ⟨u, h⟩ := h
  unfold stepAtHl
  rw [show (s.withUnread u).getPair .hl = s.getPair .hl from rfl]
  refine ((rd8_alike hR ⟨u, h⟩ (s.getPair .hl)).andThen fun v s' t' h => ?_).finish
  exact wr8_alike hR (h.setFlags hR _ _ _ _) (s.getPair .hl) (out v).value

/-- Every instruction takes states alike to states alike. -/
theorem exec_alike (hR : Preserved R) (i : Instr) (h : Alike R s t) : OutAlike R (exec i s) (exec i t) := by
  obtain ⟨u, hu⟩ := h
  have h : Alike R s (s.withUnread u) := ⟨u, hu⟩
  cases instrForm i with
  | ldRegImm8 r d8 => rw [exec_ldRegImm8, exec_ldRegImm8]; exact .next (h.setReg _ _)
  | ldAtHlD8 d8 => rw [exec_ldAtHlD8, exec_ldAtHlD8]; exact (wr8_alike hR h _ _).finish
  | ldPairImm16 p b1 b2 => rw [exec_ldPairImm16, exec_ldPairImm16]; exact .next (h.setPair _ _)
  | ldSpD16 b1 b2 => rw [exec_ldSpD16, exec_ldSpD16]; exact .next (h.sp _)
  | ldRegReg r r' => rw [exec_ldRegReg, exec_ldRegReg]; exact .next (h.setReg _ _)
  | ldRegAtHl r =>
    rw [exec_ldRegAtHl, exec_ldRegAtHl]
    exact ((rd8_alike hR h _).andThen fun v _ _ h => .ok () (h.setReg r v)).finish
  | ldAtHlReg r => rw [exec_ldAtHlReg, exec_ldAtHlReg]; exact (wr8_alike hR h _ _).finish
  | ldAtA16A b1 b2 => rw [exec_ldAtA16A, exec_ldAtA16A]; exact (wr8_alike hR h _ _).finish
  | ldHlSpR8 r8 => rw [exec_ldHlSpR8, exec_ldHlSpR8]; exact .next (((h.setPair _ _).setFlags hR _ _ _ _).tick hR _)
  | aluReg op r => rw [exec_aluReg, exec_aluReg]; exact .next (h.aluApply hR op _)
  | aluAtHl op =>
    rw [exec_aluAtHl, exec_aluAtHl]
    exact ((rd8_alike hR h _).andThen fun v _ _ h => .ok () (h.aluApply hR op v)).finish
  | aluImm8 op d8 => rw [exec_aluImm8, exec_aluImm8]; exact .next (h.aluApply hR op _)
  | incReg r => rw [exec_incReg, exec_incReg]; exact stepReg_alike hR h incOut r
  | decReg r => rw [exec_decReg, exec_decReg]; exact stepReg_alike hR h (decOut s.cfg) r
  | incAtHl => rw [exec_incAtHl, exec_incAtHl]; exact stepAtHl_alike hR h incOut
  | decAtHl => rw [exec_decAtHl, exec_decAtHl]; exact stepAtHl_alike hR h (decOut s.cfg)
  | pushPair p => rw [exec_pushPair, exec_pushPair]; exact (push16_alike hR (h.tick hR _) _).finish
  | popPair p =>
    rw [exec_popPair, exec_popPair]
    exact ((pop16_alike hR h).andThen fun v _ _ h => .ok () (h.setPair p v)).finish
  | callA16 b1 b2 =>
    rw [exec_callA16, exec_callA16]
    exact ((push16_alike hR (h.tick hR _) _).andThen fun _ _ _ h => .ok () (h.pc _)).finish
  | ret =>
    rw [exec_ret, exec_ret]
    refine ((pop16_alike hR h).andThen fun v s t h => .ok () ?_).finish
    obtain ⟨u, hu⟩ := h
    exact (Alike.tick hR ⟨u, hu⟩ _).pc v
  | di => rw [exec_di, exec_di]; exact .next (h.pend true false)
  | ei => rw [exec_ei, exec_ei]; exact .next (h.pend false true)
  | prefixByte =>
    rw [exec_prefixByte, exec_prefixByte, show (s.withUnread u).lookup (s.withUnread u).pc = s.lookup s.pc from rfl]
    cases s.lookup s.pc with
    | byte v => exact .next (((h.tick hR 1).pc _).take _)
    | draw => exact .next ((((h.draws _).tick hR 1).pc _).take _)
    | unmapped => exact .next (h.take _)
  | unimplemented op _ _ _ hx => rw [hx]; exact .next (h.take _)
  | extended op2 _ _ hx => rw [hx]; exact .next (h.take _)

theorem fetchInstr_alike (hR : Preserved R) (h : Alike R s t) : ResAlike R (fetchInstr s) (fetchInstr t) := by
  obtain ⟨u, h⟩ := h
  refine (fetch8_alike hR ⟨u, h⟩).andThen fun op s1 t1 h1 => ?_
  rw [show (s.withUnread u).cfg = s.cfg from rfl]
  split
  · exact .ok _ h1
  split
  · exact .ok _ h1
  · exact (fetch8_alike hR h1).andThen fun b1 _ _ h2 => .ok _ h2
  · exact (fetch8_alike hR h1).andThen fun b1 _ _ h2 => (fetch8_alike hR h2).andThen fun b2 _ _ h3 => .ok _ h3
  · exact .raise _ h1

theorem endStep_alike (hR : Preserved R) (i : Instr) {o o' : Host.Outcome State Fault Refusal} (h : OutAlike R o o') :
    OutAlike R (endStep i o) (endStep i o') := by
  obtain ⟨h⟩ := h
  obtain ⟨u, h⟩ := h
  rename_i s
  cases hf : s.fault with
  | none => rw [endStep_ok hf, endStep_ok (u := s.withUnread u) hf]; exact .next (Alike.tick hR ⟨u, h⟩ _)
  | some e => rw [endStep_raised hf, endStep_raised (u := s.withUnread u) hf]; exact .next ⟨u, h⟩

/-- Steps of two states alike after resolve are alike. -/
theorem step_alike (hR : Preserved R) (hf : s.fault = none) (hg : t.fault = none) (h : Alike R s.resolve t.resolve) :
    OutAlike R (step s) (step t) := by
  rw [step_of_no_fault hf, step_of_no_fault hg]
  have hi := fetchInstr_alike hR h
  generalize fetchInstr s.resolve = r at hi
  generalize fetchInstr t.resolve = r' at hi
  cases hi with
  | ok i h => exact endStep_alike hR i (exec_alike hR i h)
  | raise e h => exact .next (h.take e)

end

/-- Settles O20: the four but IME are equal all along, and IME keeps the value resolve gave it. -/
theorem imeNeverInfluencesAStep : Obligations.ImeNeverInfluencesAStep := by
  intro s t x h
  have hf := no_fault_of_step_next h
  let y := (State.resolve { s with ime := x }).ime
  have hR : Preserved (fun u w : Unread => w = { u with ime := y }) := ⟨fun n u w h => h ▸ rfl, fun b u w h => h ▸ rfl⟩
  have hs := step_alike (t := { s with ime := x }) hR hf hf ⟨{ s.resolve.unread with ime := y }, rfl⟩
  rw [h] at hs
  generalize step { s with ime := x } = o at hs
  obtain ⟨⟨u, rfl⟩⟩ := hs
  rfl

/-- Settles O21: only IME is asked to be equal, and F, M and T may be anything. -/
theorem flagsAndCountersNeverInfluenceAStep : Obligations.FlagsAndCountersNeverInfluenceAStep := by
  intro s t f m c h
  have hf := no_fault_of_step_next h
  have hR : Preserved (fun u w : Unread => w.ime = u.ime) := ⟨fun n u w h => h, fun b u w h => h⟩
  have hs := step_alike (t := { s with f := f, m := m, t := c }) hR hf hf ⟨⟨s.resolve.ime, f, m, c⟩, rfl⟩
  rw [h] at hs
  generalize step { s with f := f, m := m, t := c } = o at hs
  obtain ⟨⟨⟨ime, f', m', c'⟩, hime⟩⟩ := hs
  obtain rfl : ime = t.ime := hime
  exact ⟨f', m', c', rfl⟩

end Sys2Proof.Machine
end

section
/-! SUPPORT. The bus family: what each row of the region table answers to a read and to a write (R62 to R76, R250). -/

set_option Elab.async false

namespace Sys2Proof.Machine

/-! ## Reads (R62) -/

theorem memRead_byte {s : State} {a : Word} {v : Byte} (h : s.lookup a = .byte v) : memRead a s = .ok v s := by
  rw [memRead, h]

theorem memRead_draw {s : State} {a : Word} (h : s.lookup a = .draw) :
    memRead a s = .ok (Config.draw s.draws) { s with draws := s.draws + 1 } := by
  rw [memRead, h]

theorem memRead_unmapped {s : State} {a : Word} (h : s.lookup a = .unmapped) :
    memRead a s = .raise (.unmappedAddress a .read) s := by
  rw [memRead, h]

/-- Settles O35: a read by each thing an address can read as. -/
theorem readsChangeNothing : Obligations.ReadsChangeNothing :=
  fun _ _ => ⟨fun _ => memRead_byte, memRead_draw, memRead_unmapped⟩

/-- Settles O7: a fetch by each thing PC can read as. -/
theorem fetchReadsOneByteAtPc : Obligations.FetchReadsOneByteAtPc := by
  refine fun s => ⟨fun v h => ?_, fun h => ?_, fun h => ?_⟩ <;> rw [fetch8_eq, h] <;> rfl

/-! ## Storage (R68 to R72, R74, R75) -/

/-- The owners that keep what is written. -/
inductive Owner.IsStorage : Owner → Prop where
  | ram (k : Nat) : IsStorage (.ram k)
  | ifByte : IsStorage .ifByte
  | ieByte : IsStorage .ieByte
  | lcdc : IsStorage .lcdc
  | stat : IsStorage .stat
  | scy : IsStorage .scy
  | scx : IsStorage .scx
  | bgp : IsStorage .bgp

/-- The addresses that keep what is written belong to storage. -/
theorem isStorage_of_keepsWrites {cfg : Cfg} {overlay : Bool} {a : Word} {o : Owner} (h : OwnedBy cfg overlay a o)
    (hk : keepsWrites cfg a) : o.IsStorage := by
  unfold keepsWrites isRegisterRange at hk
  cases h with
  | ram => exact .ram _
  | echo k => exact .ram k
  | ifByte => exact .ifByte
  | ieByte => exact .ieByte
  | lcdc => exact .lcdc
  | stat => exact .stat
  | scy => exact .scy
  | scx => exact .scx
  | bgp => exact .bgp
  | boot | romLow | romHigh => omega
  | ly h hr | bootComplete h hr =>
    unfold isRegisterRange at hr
    rcases hk with hk | hk | ⟨-, hly, hbo, -⟩
    · omega
    · omega
    · contradiction
  | nobody h =>
    obtain ⟨hr, hp, -, -, ha, hh⟩ := h
    unfold isRegisterRange at hr
    rcases hk with hk | hk | ⟨-, -, -, hk | hk | hk⟩
    · omega
    · omega
    · exact absurd hk hp
    · exact absurd hk ha
    · omega

/-- A byte stored in storage is read back. -/
theorem State.store_of_isStorage {s : State} {a : Word} (v : Byte) (hw : Memory.wf s.mem) (ho : (s.ownerOf a).IsStorage) :
    ∃ t, s.store a v = some t ∧ t.lookup a = .byte v := by
  generalize h : s.ownerOf a = o at ho
  cases ho with
  | ram k => exact ⟨_, State.store_of_ram v h, State.lookup_writeCell v hw h⟩
  | ifByte => exact ⟨_, by rw [State.store, h], State.lookup_of (s := { s with ifReg := v }) h⟩
  | ieByte => exact ⟨_, by rw [State.store, h], State.lookup_of (s := { s with ieReg := v }) h⟩
  | lcdc => exact ⟨_, by rw [State.store, h], State.lookup_of (s := { s with lcdc := v }) h⟩
  | stat => exact ⟨_, by rw [State.store, h], State.lookup_of (s := { s with stat := v }) h⟩
  | scy => exact ⟨_, by rw [State.store, h], State.lookup_of (s := { s with scy := v }) h⟩
  | scx => exact ⟨_, by rw [State.store, h], State.lookup_of (s := { s with scx := v }) h⟩
  | bgp => exact ⟨_, by rw [State.store, h], State.lookup_of (s := { s with bgp := v }) h⟩

theorem State.store_keepsWrites {s : State} {a : Word} (v : Byte) (hw : Memory.wf s.mem) (hk : keepsWrites s.cfg a) :
    ∃ t, s.store a v = some t ∧ t.lookup a = .byte v :=
  State.store_of_isStorage v hw (isStorage_of_keepsWrites (State.ownedBy s a) hk)

/-- Settles O26. -/
theorem storageReadsBackWhatIsWritten : Obligations.StorageReadsBackWhatIsWritten := fun _ _ => State.store_keepsWrites

theorem SameCpu.getReg {s t : State} (h : SameCpu s t) (r : Reg8) : t.getReg r = s.getReg r := by
  cases r
  exacts [h.b, h.c, h.d, h.e, h.h, h.l, h.a]

/-- Settles O27: the addresses a store does not touch, and the CPU it never writes. -/
theorem storeChangesOnlyItsByte : Obligations.StoreChangesOnlyItsByte := by
  intro s t a v h
  have hc := State.store_sameCpu h
  exact ⟨fun b hb => State.lookup_store_of_not_touches h hb, hc.getReg, hc.f, hc.sp, hc.pc, hc.m, hc.t, hc.ime, hc.pendDi,
    hc.pendEi, hc.fault, hc.cfg⟩

/-! ## Addresses without an owner (R76), and the high half of ROM (R67) -/

theorem State.lookup_eq_unmapped_iff (s : State) (a : Word) : s.lookup a = .unmapped ↔ s.ownerOf a = .nobody := by
  unfold State.lookup
  cases s.ownerOf a <;> simp

/-- The router finds nobody exactly where no row of the table holds the address. -/
theorem State.ownerOf_eq_nobody_iff (s : State) (a : Word) : s.ownerOf a = .nobody ↔ noOwner s.cfg a := by
  have h := State.ownedBy s a
  generalize s.ownerOf a = o at h
  constructor
  · rintro rfl
    cases h with | nobody h => exact h
  · rintro ⟨hr, hp, hly, hbo, ha, hh⟩
    unfold isRegisterRange at hr
    cases h with
    | nobody => rfl
    | boot | romLow | romHigh | echo => omega
    | ram h hi =>
      unfold inApu at ha
      rw [ramCell_iff] at h
      omega
    | ifByte h | lcdc h | stat h | scy h | scx h | bgp h => simp [plainRegisters, h] at hp
    | ly h => exact absurd h hly
    | bootComplete h => exact absurd h hbo
    | ieByte h => subst h; simp at hh

theorem State.ownerOf_eq_romHigh_iff (s : State) (a : Word) :
    s.ownerOf a = .romHigh ↔ 0x4000 ≤ a.toNat ∧ a.toNat ≤ 0x7FFF := by
  refine ⟨fun h => ?_, owner_romHigh⟩
  have hb := State.ownedBy s a
  rw [h] at hb
  cases hb with | romHigh h => exact h

/-- A store fails exactly at an address without an owner and, in the faulting reading, in the high half of ROM. -/
theorem State.store_eq_none_iff (s : State) (a : Word) (v : Byte) :
    s.store a v = none ↔ s.ownerOf a = .nobody ∨ (s.ownerOf a = .romHigh ∧ s.cfg.romHiWrite = .fault) := by
  unfold State.store
  cases s.ownerOf a
  case romHigh => cases s.cfg.romHiWrite <;> simp
  all_goals simp

theorem memRead_raise_iff (s : State) (a : Word) :
    memRead a s = .raise (.unmappedAddress a .read) s ↔ s.lookup a = .unmapped := by
  unfold memRead
  cases s.lookup a <;> simp

theorem memWrite_raise_iff (s : State) (a : Word) (v : Byte) :
    memWrite a v s = .raise (.unmappedAddress a .write) s ↔ s.store a v = none := by
  unfold memWrite
  cases s.store a v <;> simp

/-- The gaps between the rows at the default addresses (20_memory.md section 2). -/
theorem noOwner_defaultCfg (a : Word) : noOwner Params.defaultCfg a ↔
    (0xA000 ≤ a.toNat ∧ a.toNat ≤ 0xBFFF) ∨ (0xFE00 ≤ a.toNat ∧ a.toNat ≤ 0xFF0E) ∨
      (0xFF45 ≤ a.toNat ∧ a.toNat ≤ 0xFF46) ∨ (0xFF48 ≤ a.toNat ∧ a.toNat ≤ 0xFF4F) ∨
      (0xFF51 ≤ a.toNat ∧ a.toNat ≤ 0xFF7F) := by
  simp only [noOwner, isRegisterRange, plainRegisters, inApu, Params.defaultCfg, List.mem_cons, List.not_mem_nil, or_false,
    ne_eq, ← BitVec.toNat_inj, BitVec.reduceToNat]
  omega

/-- Settles O34: the router's answer on each side, and the gaps of the default addresses. -/
theorem unownedAddressesRaise : Obligations.UnownedAddressesRaise := by
  refine ⟨fun s a => ?_, fun s a v => ?_, noOwner_defaultCfg⟩
  · rw [memRead_raise_iff, State.lookup_eq_unmapped_iff, State.ownerOf_eq_nobody_iff]
  · rw [memWrite_raise_iff, State.store_eq_none_iff, State.ownerOf_eq_nobody_iff, State.ownerOf_eq_romHigh_iff, and_assoc]

/-- Settles O30. -/
theorem highRomWritesRaiseOrAreDropped : Obligations.HighRomWritesRaiseOrAreDropped := by
  intro s a v hlo hhi
  have ho := (State.ownerOf_eq_romHigh_iff s a).2 ⟨hlo, hhi⟩
  refine ⟨fun hr => ?_, fun hr => ?_⟩
  · rw [wr8_eq, (State.store_eq_none_iff s a v).2 (.inr ⟨ho, hr⟩)]
  · have hs : s.store a v = some s := by rw [State.store, ho]; simp only [hr]
    exact ⟨hs, by rw [wr8_eq, hs]; rfl⟩

/-! ## LY and the boot-complete register, where the rows do not overlap (R73, R250) -/

/-- An address outside every row that stores a byte. -/
structure OutsideStorage (cfg : Cfg) (x : Word) : Prop where
  notRom : 0x8000 ≤ x.toNat
  notRam : cfg.ramCell x.toNat = false
  notEcho : ¬(0xE000 ≤ x.toNat ∧ x.toNat ≤ 0xFDFF)
  notPlain : x ∉ plainRegisters cfg
  notIe : x ≠ 0xFFFF

/-- There stand LY and the boot-complete register, or nothing. -/
theorem OutsideStorage.owner {cfg : Cfg} {overlay : Bool} {x : Word} {o : Owner} (hx : OutsideStorage cfg x)
    (h : OwnedBy cfg overlay x o) :
    (o = .ly ∧ x = cfg.addrLy) ∨ (o = .bootComplete ∧ x = cfg.addrBootOff) ∨ (o = .nobody ∧ noOwner cfg x) := by
  have hrom := hx.notRom
  cases h with
  | boot | romLow | romHigh => omega
  | ram h => rw [hx.notRam] at h; cases h
  | echo => exact absurd (by omega) hx.notEcho
  | ifByte h | lcdc h | stat h | scy h | scx h | bgp h => exact absurd (by simp [plainRegisters, h]) hx.notPlain
  | ieByte h => exact absurd h hx.notIe
  | ly h => exact .inl ⟨rfl, h⟩
  | bootComplete h => exact .inr (.inl ⟨rfl, h⟩)
  | nobody h => exact .inr (.inr ⟨rfl, h⟩)

/-- The rows of the region table before LY, which stand before the boot-complete register as well. -/
def rowsBeforeLy (cfg : Cfg) : List (Nat × Nat) :=
  [(0x0000, 0x7FFF), (0x8000, 0x9FFF), (0xC000, 0xFDFF), (cfg.addrIf.toNat, cfg.addrIf.toNat),
    (cfg.apuLo.toNat, cfg.apuHi.toNat), (cfg.addrLcdc.toNat, cfg.addrLcdc.toNat), (cfg.addrStat.toNat, cfg.addrStat.toNat),
    (cfg.addrScy.toNat, cfg.addrScy.toNat), (cfg.addrScx.toNat, cfg.addrScx.toNat)]

theorem outsideStorage_of_rows {cfg : Cfg} {x : Word} (hrows : ∀ p ∈ rowsBeforeLy cfg, p.2 < x.toNat ∨ x.toNat < p.1)
    (hbgp : cfg.addrBgp ≠ x) (htop : x.toNat < 0xFF80) : OutsideStorage cfg x := by
  simp only [rowsBeforeLy, List.forall_mem_cons] at hrows
  obtain ⟨hrom, hvram, hwork, hif, hapu, hlcdc, hstat, hscy, hscx, -⟩ := hrows
  have ne_of {r : Word} (h : r.toNat < x.toNat ∨ x.toNat < r.toNat) : x ≠ r := by rintro rfl; omega
  refine ⟨by omega, ?_, by omega, ?_, by rintro rfl; simp at htop⟩
  · rw [← Bool.not_eq_true, ramCell_iff]
    clear hif hlcdc hstat hscy hscx
    omega
  · simp [plainRegisters, ne_of hif, ne_of hlcdc, ne_of hstat, ne_of hscy, ne_of hscx, hbgp.symm]

theorem rowsApart_outside {cfg : Cfg} (h : rowsApart cfg) :
    OutsideStorage cfg cfg.addrLy ∧ OutsideStorage cfg cfg.addrBootOff ∧ cfg.addrLy ≠ cfg.addrBootOff := by
  have ne_of {r x : Word} (h : r.toNat < x.toNat ∨ x.toNat < r.toNat) : r ≠ x := by rintro rfl; omega
  obtain ⟨-, h, hbefore⟩ := List.pairwise_append.1 (show List.Pairwise _ (rowsBeforeLy cfg ++ _) from h)
  simp only [List.pairwise_cons, List.forall_mem_cons] at h hbefore
  obtain ⟨⟨hlyBgp, hlyBoot, hlyHigh, hlyIe, -⟩, ⟨hbgpBoot, -⟩, ⟨hbootHigh, hbootIe, -⟩, -⟩ := h
  refine ⟨outsideStorage_of_rows (fun p hp => (hbefore p hp).1) (ne_of hlyBgp).symm ?_,
    outsideStorage_of_rows (fun p hp => (hbefore p hp).2.2.1) (ne_of hbgpBoot) ?_, ne_of hlyBoot⟩
  · have := cfg.addrLy.isLt
    clear hlyBgp hlyBoot hbgpBoot
    omega
  · have := cfg.addrBootOff.isLt
    clear hlyBgp hlyBoot hbgpBoot
    omega

theorem State.ownerOf_ly {s : State} (h : rowsApart s.cfg) : s.ownerOf s.cfg.addrLy = .ly := by
  obtain ⟨hly, -, hne⟩ := rowsApart_outside h
  rcases hly.owner (State.ownedBy s _) with ⟨ho, -⟩ | ⟨-, he⟩ | ⟨-, hn⟩
  · exact ho
  · exact absurd he hne
  · exact absurd rfl hn.2.2.1

theorem State.ownerOf_bootOff {s : State} (h : rowsApart s.cfg) : s.ownerOf s.cfg.addrBootOff = .bootComplete := by
  obtain ⟨-, hbo, hne⟩ := rowsApart_outside h
  rcases hbo.owner (State.ownedBy s _) with ⟨-, he⟩ | ⟨ho, -⟩ | ⟨-, hn⟩
  · exact absurd he.symm hne
  · exact ho
  · exact absurd rfl hn.2.2.2.1

/-- Settles O32. -/
theorem lyReadsADrawAndDropsWrites : Obligations.LyReadsADrawAndDropsWrites := by
  intro s v h
  have ho := State.ownerOf_ly h
  exact ⟨memRead_draw (State.lookup_of ho), by rw [State.store, ho]⟩

/-- Settles O31: the register's own write switches the overlay off, and no write switches it on. -/
theorem bootCompleteRegister : Obligations.BootCompleteRegister := by
  intro s h
  have ho := State.ownerOf_bootOff h
  have hset (v : Byte) (hv : v ≠ 0x00) : s.store s.cfg.addrBootOff v = some { s with bootDone := true } := by
    rw [State.store, ho]
    simp only [if_neg hv]
  refine ⟨hset, by rw [State.store, ho]; rfl, fun v t hv ht a ha => ?_, fun a v t hb ht => State.store_bootDone ht hb,
    memRead_draw (State.lookup_of ho)⟩
  rw [hset v hv] at ht
  cases ht
  exact State.lookup_cart (by omega) (.inl (State.overlay_of_bootDone rfl))

/-! ## ROM images (R64, R65, R301) -/

theorem State.lookup_boot {s : State} {a : Word} (ha : a.toNat ≤ 0x00FF) (ho : s.overlay = true) :
    s.lookup a = .byte (Memory.readByte (s.cfg.boot.getD []) a.toNat) :=
  State.lookup_of (if_pos ⟨ha, ho⟩)

/-- Settles O33. -/
theorem romReadsFollowTheOverlay : Obligations.RomReadsFollowTheOverlay := by
  refine fun s a ha => ⟨fun image hi hb hlow => ?_, fun h => State.lookup_cart ha ?_⟩
  · rw [State.lookup_boot hlow (by simp [State.overlay, hi, hb]), hi]
    rfl
  · rcases h with h | h | h
    · exact .inl (by simp [State.overlay, h])
    · exact .inl (State.overlay_of_bootDone h)
    · exact .inr h

/-- The image of a list of bytes reads as the list. -/
theorem Memory.readByte_ofBytes (k : Nat) (bytes : List Byte) {j : Nat} (hj : j < bytes.length) :
    Memory.readByte (Memory.ofBytes k bytes) (k + j) = bytes[j] := by
  induction bytes generalizing k j with
  | nil => simp at hj
  | cons v rest ih =>
    rw [Memory.ofBytes]
    cases j with
    | zero =>
      refine Memory.readByte_keep_self k v _ (Memory.readByte_of_below _ k fun p hp => ?_)
      exact Nat.lt_of_succ_le ((Memory.wf_ofBytes (k + 1) rest).2 p hp).1
    | succ j =>
      rw [Memory.readByte_keep_of_ne _ _ _ _ (by omega), show k + (j + 1) = k + 1 + j by omega]
      exact ih (k + 1) (by simpa using hj)

theorem State.lookup_launched {s : State} {cart : List Byte} (hc : s.cfg.cart = Memory.ofBytes 0 cart) {a : Word}
    (hl : cart.length = 32768) (ha : a.toNat < 32768) (ho : s.overlay = false ∨ 0x00FF < a.toNat) :
    s.lookup a = .byte (cart[a.toNat]'(hl ▸ ha)) := by
  rw [State.lookup_cart (by omega) ho, hc, ← Memory.readByte_ofBytes 0 cart (hl ▸ ha), Nat.zero_add]

/-- Settles O36: the launched state is the reset state of a configuration that holds the images. -/
theorem launchedImageIsRead : Obligations.LaunchedImageIsRead := by
  refine ⟨fun cfg cart h => ?_, fun cfg cart boot h hb => ?_, fun cfg cart boot h => ?_, fun cfg cart boot hb => ?_⟩
  · exact ⟨_, if_pos ⟨h, rfl⟩, State.start_inv _, fun a ha => State.lookup_launched rfl h ha (.inl rfl)⟩
  · refine ⟨_, if_pos ⟨h, by simpa [bootImageFits] using hb⟩, State.start_inv _, rfl, fun a ha => ?_, fun a ha hlo => ?_,
      fun a ha => ?_⟩
    · rw [State.lookup_boot (by omega) rfl, ← Memory.readByte_ofBytes 0 boot (hb ▸ ha), Nat.zero_add]
      rfl
    · exact State.lookup_launched rfl h ha (.inr hlo)
    · exact State.lookup_launched rfl h ha (.inl rfl)
  · exact if_neg fun hn => h hn.1
  · exact if_neg fun hn => hb (by simpa [bootImageFits] using hn.2)

/-! ## The reset state (R46) -/

/-- Memory built from cells reads as the cells do, where they exist. -/
theorem Memory.readByte_ofCells (cfg : Cfg) (cells : List Host.Cell) {k : Nat} (hk : cfg.ramCell k = true) :
    Memory.readByte (Memory.ofCells cfg cells) k = Memory.readByte cells k := by
  induction cells with
  | nil => rfl
  | cons c rest ih =>
    obtain ⟨j, v⟩ := c
    rw [Memory.ofCells, Memory.readByte]
    by_cases hj : j = k
    · subst hj
      rw [if_pos hk, if_pos rfl, Memory.readByte_writeByte_self _ _ _ (Memory.wf_ofCells cfg rest).1]
    · rw [if_neg hj]
      split
      · rw [Memory.readByte_writeByte_of_ne _ _ _ _ (Ne.symm hj), ih]
      · exact ih

/-- The bits of a flag byte are its flags (R21). -/
theorem flagByte_bits (z n h c : Bool) : (flagByte z n h c).getLsbD 7 = z ∧ (flagByte z n h c).getLsbD 6 = n ∧
    (flagByte z n h c).getLsbD 5 = h ∧ (flagByte z n h c).getLsbD 4 = c := by
  cases z <;> cases n <;> cases h <;> cases c <;> decide

theorem State.lookup_reset {a : Word} (ha : keepsWrites Params.defaultCfg a) : State.reset.lookup a = .byte 0x00 := by
  have hs := isStorage_of_keepsWrites (State.ownedBy State.reset a) ha
  generalize ho : State.reset.ownerOf a = o at hs
  cases hs <;> exact State.lookup_of ho

/-- Settles O15. -/
theorem resetState : Obligations.ResetState := by
  refine ⟨fun r => by cases r <;> rfl, by decide, rfl, rfl, rfl, rfl, rfl, fun a => State.lookup_reset, fun cfg => ?_⟩
  obtain ⟨hz, hn, hh, hc⟩ := flagByte_bits cfg.reset.z cfg.reset.n cfg.reset.hc cfg.reset.cy
  refine ⟨rfl, rfl, rfl, rfl, rfl, rfl, rfl, rfl, rfl, rfl, rfl, rfl, hz, hn, hh, hc, flagByte_low _ _ _ _, rfl, rfl, rfl, ?_,
    ?_, fun k hk => Memory.readByte_ofCells cfg _ hk, rfl, rfl, rfl, rfl, rfl, rfl, rfl⟩
  · simp [State.start]
  · simp [State.start]

end Sys2Proof.Machine
end

section
/-! SUPPORT. The step family: a step by the bytes at PC, whole or cut short by a fetch that fails (R140 to R143, R146, R274). -/

set_option Elab.async false

namespace Sys2Proof.Machine

/-! ## The opcode byte of the forms that are a constructor of their own -/

theorem opcode_ldAtHlD8 (d8 : Byte) : (Instr.ldAtHlD8 d8).opcode = 0x36 := rfl
theorem opcode_ldSpD16 (b1 b2 : Byte) : (Instr.ldSpD16 b1 b2).opcode = 0x31 := rfl
theorem opcode_ldAtA16A (b1 b2 : Byte) : (Instr.ldAtA16A b1 b2).opcode = 0xEA := rfl
theorem opcode_ldHlSpR8 (r8 : Byte) : (Instr.ldHlSpR8 r8).opcode = 0xF8 := rfl
theorem opcode_callA16 (b1 b2 : Byte) : (Instr.callA16 b1 b2).opcode = 0xCD := rfl

theorem opcode_of_encode {i : Instr} {op : Byte} {tl : List Byte} (h : encode i = op :: tl) : i.opcode = op := by
  rw [Instr.opcode, h]; rfl

/-! ## The extra cycles a meaning leaves to the end of the step (R146) -/

/-- The opcode bytes whose rule places their extra cycles: `LD HL,SP+r8`, PUSH, CALL and RET. -/
def placesExtraCycles : List Byte := [0xF8, 0xC5, 0xD5, 0xE5, 0xCD, 0xC9]

/-- Those leave nothing and every other opcode byte all of it, but for an instruction that does not complete. -/
theorem restCycles_cases (cfg : Cfg) (i : Instr) :
    (i.opcode ∈ placesExtraCycles ∧ restCycles cfg i = 0) ∨
      (i.opcode ∉ placesExtraCycles ∧ restCycles cfg i = cfg.extraCycles i.opcode) ∨
      (∀ s, ∃ e, exec i s = .next (takeCondition e s)) := by
  cases instrForm i with
  | ldHlSpR8 r8 => exact .inl ⟨by rw [opcode_ldHlSpR8]; decide, rfl⟩
  | callA16 b1 b2 => exact .inl ⟨by rw [opcode_callA16]; decide, rfl⟩
  | ret => exact .inl ⟨by decide, rfl⟩
  | pushPair p => cases p <;> exact .inl ⟨by decide, rfl⟩
  | ldRegImm8 r => exact .inr (.inl ⟨by rw [opcode_ldRegImm8]; cases r <;> decide, by cases r <;> rfl⟩)
  | ldPairImm16 p => exact .inr (.inl ⟨by rw [opcode_ldPairImm16]; cases p <;> decide, by cases p <;> rfl⟩)
  | ldRegReg r r' => cases r <;> cases r' <;> exact .inr (.inl ⟨by decide, rfl⟩)
  | ldRegAtHl r => cases r <;> exact .inr (.inl ⟨by decide, rfl⟩)
  | ldAtHlReg r => cases r <;> exact .inr (.inl ⟨by decide, rfl⟩)
  | aluReg op r => cases op <;> cases r <;> exact .inr (.inl ⟨by decide, rfl⟩)
  | aluAtHl op => cases op <;> exact .inr (.inl ⟨by decide, rfl⟩)
  | aluImm8 op => exact .inr (.inl ⟨by rw [opcode_aluImm8]; cases op <;> decide, by cases op <;> rfl⟩)
  | incReg r => cases r <;> exact .inr (.inl ⟨by decide, rfl⟩)
  | decReg r => cases r <;> exact .inr (.inl ⟨by decide, rfl⟩)
  | popPair p => cases p <;> exact .inr (.inl ⟨by decide, rfl⟩)
  | ldAtHlD8 d8 => exact .inr (.inl ⟨by rw [opcode_ldAtHlD8]; decide, rfl⟩)
  | ldSpD16 b1 b2 => exact .inr (.inl ⟨by rw [opcode_ldSpD16]; decide, rfl⟩)
  | ldAtA16A b1 b2 => exact .inr (.inl ⟨by rw [opcode_ldAtA16A]; decide, rfl⟩)
  | incAtHl | decAtHl | di | ei | prefixByte => exact .inr (.inl ⟨by decide, rfl⟩)
  | unimplemented op _ _ _ hx => exact .inr (.inr fun s => ⟨_, congrFun hx s⟩)
  | extended op2 _ _ hx => exact .inr (.inr fun s => ⟨_, congrFun hx s⟩)

/-- `cfg.EXTRA_M` at its default: one cycle for the opcodes whose rule places it, none for the others (decision D11). -/
theorem extraCycles_default (op : Byte) : Params.defaultCfg.extraCycles op = if op ∈ placesExtraCycles then 1 else 0 := by
  revert op
  decide

theorem extraCycles_of_extraM {cfg : Cfg} (h : cfg.extraM = Params.defaultCfg.extraM) (op : Byte) :
    cfg.extraCycles op = Params.defaultCfg.extraCycles op := by rw [Cfg.extraCycles, h, Cfg.extraCycles]

/-- At the default rows the end of a step adds nothing. -/
theorem endStep_exec_default {i : Instr} {s : State} (h : s.cfg.extraM = Params.defaultCfg.extraM) :
    endStep i (exec i s) = exec i s := by
  obtain ⟨t, ht⟩ := exec_next i s
  have hc : t.cfg = s.cfg := (exec_keeps i s t ht).cfg
  rw [ht]
  cases hf : t.fault with
  | some e => exact endStep_raised hf
  | none =>
    rw [endStep_ok hf, hc]
    rcases restCycles_cases s.cfg i with ⟨-, hr⟩ | ⟨hop, hr⟩ | hx
    · rw [hr]; rfl
    · rw [hr, extraCycles_of_extraM h, extraCycles_default, if_neg hop]; rfl
    · obtain ⟨e, he⟩ := hx s
      rw [ht] at he
      cases he
      cases hf

/-! ## The step of an instruction at PC -/

theorem encodeWith_length (p : Byte) (i : Instr) : (encodeWith p i).length = (encode i).length := by
  unfold encodeWith
  split
  · rename_i h
    cases he : encode i with
    | nil => rw [Instr.opcode, he] at h; exact absurd h (by decide)
    | cons op tl => rfl
  · rfl

/-- A step that runs an instruction of the extended table, reached through the byte `cfg.PREFIX` alone, is that of the
instruction (R143). -/
theorem endStep_prefixByte {s : State} {i : Instr} {op2 : Byte} (hl : s.lookup (s.pc + 1) = .byte op2)
    (hi : extendedTable op2 = i) :
    endStep .prefixByte (exec .prefixByte (s.advance 1)) = endStep i (exec i (s.advance 2)) := by
  have hp : exec .prefixByte (s.advance 1) = raiseUnimplementedExtended op2 (s.advance 2) := by
    rw [exec_prefixByte, State.lookup_advance, show (s.advance 1).pc = s.pc + 1 from rfl, hl]
    exact congrArg (raiseUnimplementedExtended op2) (State.advance_advance s 1 1)
  rw [hp, ← hi, exec_extended _ op2 _ (extendedTable_ok op2).1]
  rfl

/-- The step of the instruction whose bytes stand at PC (R140, R142). -/
theorem step_of_about {s : State} {i : Instr} (h : s.about i) :
    step s = endStep i (exec i (s.fetched (encode i).length)) := by
  obtain ⟨hfault, hwf, hsel, hbytes⟩ := h
  have hf := fetchInstr_of_holds s.resolve i hwf hsel ((State.holds_resolve s _ _).2 hbytes)
  rw [step_of_no_fault hfault, ← encodeWith_length s.cfg.prefixByte i]
  rw [show s.resolve.cfg.prefixByte = s.cfg.prefixByte from rfl] at hf
  generalize fetchInstr s.resolve = r at hf
  generalize encodeWith s.cfg.prefixByte i = bytes at hf hbytes
  cases hf with
  | whole => rfl
  | extended op2 hb hi => subst hb; exact endStep_prefixByte (s := s.resolve) hbytes.2.1 hi

/-- Settles O6. -/
theorem stepRunsDecodedInstruction : Obligations.StepRunsDecodedInstruction := by
  refine ⟨fun s i h => ⟨step_of_about h, fun hm => ?_⟩, fun i t h => endStep_ok h, fun i t h => ?_⟩
  · rw [step_of_about h]; exact endStep_exec_default hm
  · obtain ⟨e, he⟩ := Option.ne_none_iff_exists'.1 h
    exact endStep_raised he

/-! ## The step of an instruction whose bytes cannot all be fetched -/

theorem State.advance_zero (s : State) : s.advance 0 = s := by
  simp only [State.advance, BitVec.add_zero, Nat.add_zero, Nat.mul_zero]

/-- What `fetchInstr` gives where the fetch fails after `k` bytes of a selected instruction (R142): the condition, or, of an entry of
the extended table whose second byte is missing, the byte `cfg.PREFIX` alone. -/
theorem fetchInstr_of_unmapped {s : State} {i : Instr} {bytes : List Byte} {k : Nat}
    (he : EncodedWith s.cfg.prefixByte i bytes) (hk : k < bytes.length) (h : s.holds s.pc (bytes.take k))
    (hu : s.lookup (s.pc + BitVec.ofNat 16 k) = .unmapped) :
    fetchInstr s = .raise (.unmappedAddress (s.pc + BitVec.ofNat 16 k) .read) (s.advance k) ∨
      (k = 1 ∧ fetchInstr s = .ok .prefixByte (s.advance 1)) := by
  match k with
  | 0 =>
    have hpc : s.pc + BitVec.ofNat 16 0 = s.pc := BitVec.add_zero _
    rw [hpc] at hu ⊢
    exact .inl (by unfold fetchInstr; rw [fetch8_unmapped hu]; simp only [Res.andThen, State.advance_zero])
  | 1 =>
    have hfail := fetch8_unmapped (s := s.advance 1) hu
    cases he with
    | op | alone => simp at hk
    | imm8 o make b1 hp ht =>
      exact .inl (by unfold fetchInstr; rw [fetch8_byte h.1]; simp only [Res.andThen, if_neg hp, ht, hfail]; rfl)
    | imm16 o make b1 b2 hp ht =>
      exact .inl (by unfold fetchInstr; rw [fetch8_byte h.1]; simp only [Res.andThen, if_neg hp, ht, hfail]; rfl)
    | extended op2 => exact .inr ⟨rfl, by unfold fetchInstr; rw [fetch8_byte h.1]; simp only [Res.andThen, if_true]⟩
  | 2 =>
    have hfail := fetch8_unmapped (s := s.advance 2) hu
    cases he with
    | op | alone | imm8 | extended => simp at hk
    | imm16 o make b1 b2 hp ht =>
      have h2 : fetch8 (s.advance 1) = .ok b1 (s.advance 2) := by
        rw [fetch8_byte (v := b1) h.2.1, State.advance_advance]
      exact .inl (by unfold fetchInstr; rw [fetch8_byte h.1]; simp only [Res.andThen, if_neg hp, ht, h2, hfail]; rfl)
  | k + 3 => cases he <;> simp at hk

/-- Settles O8: the fetch ends the step, or, after the byte `cfg.PREFIX`, the meaning of that byte does. -/
theorem failedFetchEndsTheStep : Obligations.FailedFetchEndsTheStep := by
  intro s i k hfault hwf hsel hk hbytes hu
  rw [← encodeWith_length s.cfg.prefixByte] at hk
  rw [step_of_no_fault hfault]
  rcases fetchInstr_of_unmapped (s := s.resolve) (encodedWith _ i hwf hsel) hk ((State.holds_resolve s _ _).2 hbytes) hu with
    hf | ⟨rfl, hf⟩
  · rw [hf]; rfl
  · have hx : exec .prefixByte (s.resolve.advance 1) =
        .next (takeCondition (.unmappedAddress (s.pc + BitVec.ofNat 16 1) .read) (s.fetched 1)) := by
      rw [exec_prefixByte, show (s.resolve.advance 1).lookup (s.resolve.advance 1).pc = .unmapped from hu]
      rfl
    rw [hf]
    simp only [hx]
    exact endStep_raised rfl

end Sys2Proof.Machine
end

section
/-! SUPPORT. The family of loads and stores (R22, R160 to R167): reads and writes that cost their cycle, in the words of the claims. -/

set_option Elab.async false

namespace Sys2Proof.Machine

/-! ## Byte accesses in the words of the claims -/

theorem rd8_some {s t : State} {a : Word} {v : Byte} (h : s.readResult a = some (v, t)) : rd8 a s = .ok v t := by
  rw [rd8_eq]
  unfold State.readResult at h
  cases hl : s.lookup a <;> rw [hl] at h <;> cases h <;> rfl

theorem rd8_none {s : State} {a : Word} (h : s.readResult a = none) : rd8 a s = .raise (.unmappedAddress a .read) s := by
  rw [rd8_eq]
  unfold State.readResult at h
  cases hl : s.lookup a <;> rw [hl] at h <;> cases h

theorem State.readResult_byte {s : State} {a : Word} {v : Byte} (h : s.lookup a = .byte v) :
    s.readResult a = some (v, s.counted 1) := by
  rw [State.readResult, h]

/-- A read costs its cycle and at most a draw, and leaves all else (R62). -/
theorem State.eq_of_readResult {s t : State} {a : Word} {v : Byte} (h : s.readResult a = some (v, t)) :
    t = State.counted { s with draws := t.draws } 1 := by
  unfold State.readResult at h
  cases hl : s.lookup a <;> rw [hl] at h <;> cases h <;> rfl

theorem wr8_finish (a : Word) (v : Byte) (s : State) : (wr8 a v s).finish = s.storeOutcome a v := by
  rw [wr8_eq, State.storeOutcome]
  cases s.store a v <;> rfl

/-- A store does not fail at an address that answers a write. -/
theorem State.store_takesWrites {s : State} {a : Word} (v : Byte) (h : takesWrites s.cfg a) :
    ∃ t, s.store a v = some t ∧ t.fault = s.fault := by
  cases hs : s.store a v with
  | some t => exact ⟨t, rfl, (State.store_sameCpu hs).fault⟩
  | none =>
    exfalso
    rcases h with hk | hlow | ⟨hr, hio⟩
    · have ho := isStorage_of_keepsWrites (State.ownedBy s a) hk
      rcases (State.store_eq_none_iff s a v).1 hs with h | ⟨h, -⟩ <;> rw [h] at ho <;> cases ho
    · rw [State.store_lowRom s v hlow] at hs
      cases hs
    · rcases (State.store_eq_none_iff s a v).1 hs with h | ⟨h, -⟩
      · obtain ⟨-, -, hly, hbo, -⟩ := (State.ownerOf_eq_nobody_iff s a).1 h
        exact hio.elim hly hbo
      · have := (State.ownerOf_eq_romHigh_iff s a).1 h
        unfold isRegisterRange at hr
        omega

/-! ## Pairs (R22) -/

theorem hi8_toNat (v : Word) : (hi8 v).toNat = v.toNat / 256 := by
  have := v.isLt
  simp only [hi8, BitVec.extractLsb'_toNat, Nat.shiftRight_eq_div_pow]
  omega

theorem lo8_toNat (v : Word) : (lo8 v).toNat = v.toNat % 256 := by
  simp only [lo8, BitVec.extractLsb'_toNat, Nat.shiftRight_zero]

/-- Settles O37. -/
theorem pairsAreViewsOfRegisters : Obligations.PairsAreViewsOfRegisters :=
  ⟨fun _ => ⟨word_toNat _ _, word_toNat _ _, word_toNat _ _⟩,
    fun _ v => ⟨hi8_toNat v, lo8_toNat v, hi8_toNat v, lo8_toNat v, hi8_toNat v, lo8_toNat v⟩,
    State.getPair_setPair_self, fun _ _ => rfl⟩

/-! ## Loads (R160 to R164, R167) -/

theorem State.counted_counted (s : State) (j k : Nat) : (s.counted j).counted k = s.counted (j + k) := State.tick_tick s j k

theorem State.setReg_counted (s : State) (r : Reg8) (v : Byte) (n : Nat) :
    (s.counted n).setReg r v = (s.setReg r v).counted n := by cases r <;> rfl

theorem State.fetched_eq_counted (s : State) (n : Nat) :
    s.fetched n = State.counted { s.resolve with pc := s.pc + BitVec.ofNat 16 n } n := rfl

/-- Bytes at PC that begin with an opcode byte of an entry of its own are about the instruction they encode. -/
theorem State.about_of_holds {s : State} {i : Instr} {op : Byte} {tl : List Byte} (hf : s.fault = none)
    (hw : i.wellFormed = true) (he : encode i = op :: tl) (ht : primaryTable op ≠ .extended) (hp : s.cfg.prefixByte ≠ op)
    (h : s.holds s.pc (op :: tl)) : s.about i := by
  obtain ⟨hs, heq⟩ := encodeWith_of_encode he hp.symm ht
  exact ⟨hf, hw, hs, heq ▸ h⟩

/-- The step of an instruction of `n` bytes at PC whose meaning raises nothing and leaves `k` cycles (R146). -/
theorem step_of_about_next {s t : State} {i : Instr} {n k : Nat} (h : s.about i) (hn : (encode i).length = n)
    (hx : exec i (s.fetched n) = .next t) (hf : t.fault = none) (hk : restCycles t.cfg i = k) :
    step s = .next (t.counted k) := by
  rw [step_of_about h, hn, hx, ← hk]
  exact endStep_ok hf

/-- Settles O38: the step of two plain bytes, and the fetch that fails after one. -/
theorem loadImmediateByte : Obligations.LoadImmediateByte := by
  intro r d8 s op
  have he : encode (Instr.ldRegImm8 r d8) = [op, d8] := by cases r <;> rfl
  have hw : (Instr.ldRegImm8 r d8).wellFormed = true := by cases r <;> rfl
  have ht : primaryTable op ≠ .extended := fun h => absurd (primaryTable_extended.1 h) (by cases r <;> decide)
  refine ⟨by cases r <;> decide, exec_ldRegImm8 s r d8, fun hf hp h => ?_, fun hf hp h hu => ?_⟩
  · have hk : restCycles ((s.fetched 2).setReg r d8).cfg (Instr.ldRegImm8 r d8) = s.cfg.extraCycles op := by
      rw [State.setReg_cfg]
      cases r <;> rfl
    rw [step_of_about_next (State.about_of_holds hf hw he ht hp h) (congrArg List.length he) (exec_ldRegImm8 _ r d8)
      ((State.setReg_fault _ _ _).trans hf) hk, State.fetched_eq_counted, State.setReg_counted, State.counted_counted]
    cases r <;> rfl
  · obtain ⟨hs, heq⟩ := encodeWith_of_encode he hp.symm ht
    exact failedFetchEndsTheStep s _ 1 hf hw hs (by simp [he]) (by rw [heq]; exact ⟨h, trivial⟩) hu

/-- Settles O39: the two byte orders. -/
theorem loadImmediateWord : Obligations.LoadImmediateWord := by
  refine fun b1 b2 s => ⟨fun h => ⟨fun p => ?_, ?_⟩, fun h => ⟨fun p => ?_, ?_⟩⟩
  · rw [exec_ldPairImm16, loadPairImm16, h]; rfl
  · rw [exec_ldSpD16, loadSpImm16, h]; rfl
  · rw [exec_ldPairImm16, loadPairImm16, h]; rfl
  · rw [exec_ldSpD16, loadSpImm16, h]; rfl

theorem State.setReg_getReg_self (s : State) (r : Reg8) : s.setReg r (s.getReg r) = s := by cases r <;> rfl

/-- Settles O40. -/
theorem loadRegister : Obligations.LoadRegister :=
  ⟨fun r r' s => exec_ldRegReg s r r', fun r s => by rw [exec_ldRegReg, loadReg, State.setReg_getReg_self]⟩

/-- Settles O41: the two outcomes of the read at HL. -/
theorem loadFromHl : Obligations.LoadFromHl := by
  refine fun r s => ⟨fun v t h => ?_, fun h => ?_⟩
  · rw [exec_ldRegAtHl, loadAtHl, rd8_some h]; rfl
  · rw [exec_ldRegAtHl, loadAtHl, rd8_none h]; rfl

/-- Settles O43: the offset and the flag formulas as numbers. -/
theorem loadHlFromSpOffset : Obligations.LoadHlFromSpOffset := by
  intro r8 s
  have hlo : (lo8 s.sp).toNat % 16 = s.sp.toNat % 16 := by rw [lo8_toNat]; omega
  rw [exec_ldHlSpR8, loadHlSpOffset, sext16_eq, hcAdd_eq, cAdd_eq, hlo, lo8_toNat]
  rfl

/-! ## Stores (R161, R165, R166) -/

/-- An instruction whose whole meaning is a store completes where the address answers a write. -/
theorem storesTo_of_exec {i : Instr} {s : State} {a : Word} {v : Byte} (h : exec i s = (wr8 a v s).finish) :
    storesTo i s a v := by
  rw [wr8_finish] at h
  refine ⟨h, fun ha => ?_⟩
  obtain ⟨t, ht, hf⟩ := State.store_takesWrites v ha
  exact ⟨t, ht, by rw [h, State.storeOutcome, ht], hf⟩

/-- Settles O42. -/
theorem storeInstructions : Obligations.StoreInstructions := by
  refine fun s => ⟨fun r => storesTo_of_exec (exec_ldAtHlReg s r), fun d8 => storesTo_of_exec (exec_ldAtHlD8 s d8),
    fun b1 b2 h => storesTo_of_exec ?_, fun b1 b2 h => storesTo_of_exec ?_⟩
  · rw [exec_ldAtA16A, storeAbsolute, h]; rfl
  · rw [exec_ldAtA16A, storeAbsolute, h]; rfl

end Sys2Proof.Machine
end

section
/-! SUPPORT. The arithmetic family (R190 to R214): each operation once, in whichever form its operand is given. -/

set_option Elab.async false

namespace Sys2Proof.Machine

/-! ## Two-operand operations (R192 to R209) -/

/-- The three forms of an operation apply it to the register, to the literal and to the byte read at HL. -/
theorem aluFormsGive_aluApply (op : AluOp) : aluFormsGive op (fun s v => aluApply op v s) := by
  refine fun s => ⟨fun r => exec_aluReg s op r, fun d8 => exec_aluImm8 s op d8, fun v t h => ?_, fun h => ?_⟩
  · rw [exec_aluAtHl, aluAtHl, rd8_some h]; rfl
  · rw [exec_aluAtHl, aluAtHl, rd8_none h]; rfl

theorem aluFormsGive_of {op : AluOp} {result : State → Byte → State} (h : ∀ s v, aluApply op v s = result s v) :
    aluFormsGive op result := by
  have hr : result = fun s v => aluApply op v s := funext fun s => funext fun v => (h s v).symm
  rw [hr]
  exact aluFormsGive_aluApply op

theorem aluApply_add (s : State) (v : Byte) : aluApply .add v s = s.added v := by
  simp only [State.added, ← isZero_eq, ← hcAdd_eq, ← cAdd_eq]
  rfl

theorem isZero_sub (a b : Byte) : isZero (a - b) = decide (a = b) := by
  rw [isZero_eq]
  exact decide_eq_decide.2 (sub_eq_zero_byte a b)

theorem aluApply_cp (s : State) (v : Byte) : aluApply .cp v s = s.compared v := by
  simp only [State.compared, ← isZero_sub]
  rfl

theorem aluApply_sub (s : State) (v : Byte) : aluApply .sub v s = s.subtracted v := by
  rw [State.subtracted, ← aluApply_cp]
  rfl

/-- The logical operations write their result with Z of it (R198, R201, R204). -/
theorem aluApply_logical {op : AluOp} {s : State} {v w : Byte} (ho : aluOut s.cfg op s.a v = logicOut w)
    (hw : op.writesA = true) : aluApply op v s = s.logical w := by
  simp only [aluApply, ho, hw, if_true, logicOut, State.logical, ← isZero_eq]
  rfl

/-- Settles O44. -/
theorem addResult : Obligations.AddResult := aluFormsGive_of aluApply_add

/-- Settles O45. -/
theorem subtractAndCompareResult : Obligations.SubtractAndCompareResult :=
  ⟨aluFormsGive_of aluApply_sub, aluFormsGive_of aluApply_cp, fun a b => ⟨addShaped_eq a b, rfl⟩⟩

/-- Settles O46. -/
theorem logicalResult : Obligations.LogicalResult :=
  ⟨aluFormsGive_of fun _ _ => aluApply_logical rfl rfl, aluFormsGive_of fun _ _ => aluApply_logical rfl rfl,
    aluFormsGive_of fun _ _ => aluApply_logical rfl rfl⟩

/-! ## INC and DEC (R210 to R213) -/

/-- The four flags of a result as the byte F. -/
def AluOut.flags (o : AluOut) : Byte := flagByte o.z o.n o.h o.c

theorem stepReg_eq (out : Byte → AluOut) (r : Reg8) (s : State) :
    stepReg out r s = .next { s.setReg r (out (s.getReg r)).value with f := (out (s.getReg r)).flags } := by
  cases r <;> rfl

theorem stepAtHl_some {out : Byte → AluOut} {s t : State} {v : Byte} (h : s.readResult (s.getPair .hl) = some (v, t)) :
    stepAtHl out s = State.storeOutcome { t with f := (out v).flags } (s.getPair .hl) (out v).value := by
  simp only [stepAtHl, rd8_some h, Res.andThen, wr8_finish]
  rfl

theorem stepAtHl_none {out : Byte → AluOut} {s : State} (h : s.readResult (s.getPair .hl) = none) :
    stepAtHl out s = .next (s.faulted (.unmappedAddress (s.getPair .hl) .read)) := by
  simp only [stepAtHl, rd8_none h, Res.andThen]
  rfl

/-- Where HL points at storage the memory form completes: the new byte at HL, two cycles, and of the CPU's state F alone. -/
theorem stepAtHl_keepsWrites (out : Byte → AluOut) {s : State} {v : Byte} (hw : Memory.wf s.mem)
    (hk : keepsWrites s.cfg (s.getPair .hl)) (hl : s.lookup (s.getPair .hl) = .byte v) :
    ∃ t, stepAtHl out s = .next t ∧ t.lookup (s.getPair .hl) = .byte (out v).value ∧ Memory.wf t.mem ∧
      SameCpu (State.counted { s with f := (out v).flags } 2) t := by
  obtain ⟨u, hu, hlu⟩ := State.store_keepsWrites (s := { s.counted 1 with f := (out v).flags }) (out v).value hw hk
  have hc := State.store_sameCpu hu
  refine ⟨u.counted 1, ?_, hlu, (State.store_mem hu).1 hw, ?_⟩
  · rw [stepAtHl_some (State.readResult_byte hl), State.storeOutcome, hu]
  · exact { hc with
      m := by show u.m + 1 = s.m + 2; rw [hc.m]; rfl
      t := by show u.t + 4 * 1 = s.t + 4 * 2; rw [hc.t]; rfl }

theorem stepFormsGive_of {onReg : Reg8 → Instr} {onHl : Instr} {out : Cfg → Byte → AluOut} {value : Byte → Byte}
    {flags : Cfg → Byte → Byte} (hreg : ∀ s r, exec (onReg r) s = stepReg (out s.cfg) r s)
    (hhl : ∀ s, exec onHl s = stepAtHl (out s.cfg) s) (hvalue : ∀ cfg v, (out cfg v).value = value v)
    (hflags : ∀ cfg v, (out cfg v).flags = flags cfg v) : stepFormsGive onReg onHl value flags := by
  refine fun s => ⟨fun r => ?_, fun v t h => ?_, fun h => ?_, fun v hw hk hl => ?_⟩
  · rw [hreg, stepReg_eq, hvalue, hflags]
  · rw [hhl, stepAtHl_some h, hvalue, hflags]
  · rw [hhl, stepAtHl_none h]
  · obtain ⟨t, ht, hlt, -, hc⟩ := stepAtHl_keepsWrites (out s.cfg) hw hk hl
    rw [hvalue] at hlt
    exact ⟨t, (hhl s).trans ht, hlt, hc.f.trans (hflags _ _), hc.m, hc.t, hc.pc, hc.fault⟩

theorem incOut_flags (v : Byte) : (incOut v).flags = incFlags v := by revert v; decide

theorem decOut_flags (cfg : Cfg) (v : Byte) : (decOut cfg v).flags = decFlags cfg v :=
  congrArg (flagByte · true _ _) (isZero_sub v 1)

/-- Settles O47. -/
theorem incrementResult : Obligations.IncrementResult :=
  stepFormsGive_of (out := fun _ => incOut) exec_incReg exec_incAtHl (fun _ _ => rfl) (fun _ => incOut_flags)

/-- The flags of DEC at the default formulas (decisions D5 and D6). -/
theorem decFlags_default (v : Byte) : decFlags Params.defaultCfg v =
    flagByte (decide (v = 0x01)) true (decide (v.toNat % 16 = 15)) (decide (v = 0x00)) := by
  revert v
  decide

/-- Settles O48. -/
theorem decrementResult : Obligations.DecrementResult := by
  refine ⟨stepFormsGive_of exec_decReg exec_decAtHl (fun _ _ => rfl) decOut_flags, decFlags_default, fun cfg h15 h14 => ?_,
    by decide, by decide⟩
  exact ⟨(flagByte_bits _ _ _ _).2.2.1.trans h15, (flagByte_bits _ _ _ _).2.2.1.trans h14⟩

/-! ## The laws of the arithmetic (R214) -/

/-- Whatever form gives the operand, the operation is applied to it, A, HL and the bus still being those of the start. -/
theorem exec_aluOperand {s : State} {i : Instr} {op : AluOp} {v : Byte} (h : aluOperand i op s v) :
    ∃ t, exec i s = .next (aluApply op v t) ∧ t = { s with m := t.m, t := t.t, draws := t.draws } := by
  rcases h with ⟨r, rfl, rfl⟩ | rfl | ⟨rfl, t, ht⟩
  · exact ⟨s, exec_aluReg s op r, rfl⟩
  · exact ⟨s, exec_aluImm8 s op v, rfl⟩
  · refine ⟨t, (aluFormsGive_aluApply op s).2.2.1 v t ht, ?_⟩
    rw [State.eq_of_readResult ht]
    rfl

theorem AluOut.flags_bits (o : AluOut) : o.flags.getLsbD 7 = o.z ∧ o.flags.getLsbD 6 = o.n :=
  ⟨(flagByte_bits _ _ _ _).1, (flagByte_bits _ _ _ _).2.1⟩

theorem aluApply_f (op : AluOp) (v : Byte) (s : State) : (aluApply op v s).f = (aluOut s.cfg op s.a v).flags := by
  cases op <;> rfl

/-- Z is that of the result, which CP computes and discards, and N is set in SUB and CP alone (R190). -/
theorem aluApply_flags (op : AluOp) (v : Byte) (s : State) :
    (aluApply op v s).flagN = decide (op = .sub ∨ op = .cp) ∧
      (aluApply op v s).flagZ = (if op = .cp then decide (s.a - v = 0) else decide ((aluApply op v s).a = 0)) := by
  rw [State.flagN, State.flagZ, aluApply_f, (AluOut.flags_bits _).1, (AluOut.flags_bits _).2]
  cases op <;> exact ⟨rfl, isZero_eq _⟩

theorem State.getReg_withF (s : State) (f : Byte) (r : Reg8) : State.getReg { s with f := f } r = s.getReg r := by
  cases r <;> rfl

/-- A one-operand operation on a register: Z and N are the result's, and the register holds it. -/
theorem stepReg_result (out : Byte → AluOut) (r : Reg8) (s : State) :
    ∃ t, stepReg out r s = .next t ∧ t.flagN = (out (s.getReg r)).n ∧ t.flagZ = (out (s.getReg r)).z ∧
      t.getReg r = (out (s.getReg r)).value :=
  ⟨_, stepReg_eq out r s, (AluOut.flags_bits _).2, (AluOut.flags_bits _).1,
    (State.getReg_withF _ _ r).trans (State.getReg_setReg_self _ _ _)⟩

theorem State.storeOutcome_f (s : State) (a : Word) (v : Byte) : ∃ t, s.storeOutcome a v = .next t ∧ t.f = s.f := by
  unfold State.storeOutcome
  cases hs : s.store a v with
  | some t => exact ⟨_, rfl, (State.store_sameCpu hs).f⟩
  | none => exact ⟨_, rfl, rfl⟩

/-- The memory form writes Z and N of the result whether or not its store raises. -/
theorem stepAtHl_flags (out : Byte → AluOut) {s u : State} {v : Byte} (h : s.readResult (s.getPair .hl) = some (v, u)) :
    ∃ t, stepAtHl out s = .next t ∧ t.flagN = (out v).n ∧ t.flagZ = (out v).z := by
  obtain ⟨t, ht, hf⟩ := State.storeOutcome_f { u with f := (out v).flags } (s.getPair .hl) (out v).value
  refine ⟨t, (stepAtHl_some h).trans ht, ?_, ?_⟩
  · rw [State.flagN, hf]; exact (AluOut.flags_bits _).2
  · rw [State.flagZ, hf]; exact (AluOut.flags_bits _).1

/-- Settles O49: each law from the result of its operations. -/
theorem arithmeticLaws : Obligations.ArithmeticLaws := by
  have hadd := addResult
  obtain ⟨hsub, hcp, -⟩ := subtractAndCompareResult
  refine ⟨fun s d8 => ?_, fun s r hr => ?_, fun s v hl => ?_, fun s r => ?_, fun s v hw hk hl => ?_, fun s i v h => ?_,
    fun s i op v h => ?_, fun s r => ?_, fun s r => ?_, fun s u v h => ⟨?_, ?_⟩⟩
  · exact ⟨_, _, (hadd s).2.1 d8, (hsub (s.added d8)).2.1 d8, BitVec.add_sub_cancel _ _⟩
  · have hv : (s.added (s.getReg r)).getReg r = s.getReg r := by
      cases r <;> first | rfl | exact absurd rfl hr
    refine ⟨_, _, (hadd s).1 r, (hsub (s.added (s.getReg r))).1 r, ?_⟩
    rw [hv]
    exact BitVec.add_sub_cancel _ _
  · have ht : ((s.counted 1).added v).readResult (((s.counted 1).added v).getPair .hl) =
        some (v, ((s.counted 1).added v).counted 1) := State.readResult_byte hl
    exact ⟨_, _, (hadd s).2.2.1 v _ (State.readResult_byte hl), (hsub _).2.2.1 v _ ht, BitVec.add_sub_cancel _ _⟩
  · obtain ⟨t, ht, -, -, hvt⟩ := stepReg_result incOut r s
    obtain ⟨u, hu, -, -, hvu⟩ := stepReg_result (decOut t.cfg) r t
    refine ⟨t, u, (exec_incReg s r).trans ht, (exec_decReg t r).trans hu, ?_⟩
    rw [hvu, hvt]
    exact BitVec.add_sub_cancel _ _
  · obtain ⟨t, ht, hlt, hwt, hc⟩ := stepAtHl_keepsWrites incOut hw hk hl
    have hp : t.getPair .hl = s.getPair .hl := congrArg₂ word hc.h hc.l
    obtain ⟨u, hu, hlu, -, -⟩ := stepAtHl_keepsWrites (s := t) (decOut t.cfg) hwt (by rw [hp, hc.cfg]; exact hk)
      (by rw [hp]; exact hlt)
    rw [hp] at hlu
    refine ⟨t, u, ht, hu, hlu.trans (congrArg Lookup.byte ?_)⟩
    exact BitVec.add_sub_cancel _ _
  · obtain ⟨t, ht, he⟩ := exec_aluOperand h
    rw [aluApply_cp] at ht
    refine ⟨_, ht, ?_⟩
    rw [he]
    rfl
  · obtain ⟨t, ht, he⟩ := exec_aluOperand h
    have ha : t.a = s.a := by rw [he]
    exact ⟨_, ht, ha ▸ aluApply_flags op v t⟩
  · obtain ⟨t, ht, hn, hz, hv⟩ := stepReg_result incOut r s
    exact ⟨t, (exec_incReg s r).trans ht, hn, hv ▸ hz.trans (isZero_eq _)⟩
  · obtain ⟨t, ht, hn, hz, hv⟩ := stepReg_result (decOut s.cfg) r s
    exact ⟨t, (exec_decReg s r).trans ht, hn, hv ▸ hz.trans (isZero_eq _)⟩
  · obtain ⟨t, ht, hn, hz⟩ := stepAtHl_flags incOut h
    exact ⟨t, ht, hn, hz.trans (isZero_eq _)⟩
  · obtain ⟨t, ht, hn, hz⟩ := stepAtHl_flags (decOut s.cfg) h
    exact ⟨t, ht, hn, hz.trans (isZero_eq _)⟩

end Sys2Proof.Machine
end

section
/-! SUPPORT. The family of the stack, CALL and RET (R220 to R225): the stack primitives in the words of the claims, and two stack
bytes in storage. -/

set_option Elab.async false

namespace Sys2Proof.Machine

/-! ## The stack primitives (R220) -/

theorem Word.sub_one_sub_one (x : Word) : x - 1 - 1 = x - 2 := by bv_omega

/-- A meaning that pushes and then only updates the state. -/
theorem push16_andThen (v : Word) (s : State) (done : State → State) :
    ((push16 v s).andThen fun _ t => .ok () (done t)).finish = s.pushOutcome v done := by
  simp only [push16, wr8_eq, State.pushOutcome]
  cases h1 : State.store { s with sp := s.sp - 1 } (s.sp - 1) (hi8 v) with
  | none => rfl
  | some s2 =>
    have hsp : s2.sp - 1 = s.sp - 2 := by rw [(State.store_sameCpu h1).sp]; exact Word.sub_one_sub_one _
    simp only [Res.andThen, State.tick_sp, hsp, State.counted]
    cases h2 : State.store { s2 with sp := s.sp - 2, m := s2.m + 1, t := s2.t + 4 * 1 } (s.sp - 2) (lo8 v) with
    | none => simp only [State.tick, h2]; rfl
    | some s4 => simp only [State.tick, h2]; rfl

theorem push16_finish (v : Word) (s : State) : (push16 v s).finish = s.pushOutcome v id := by
  rw [← push16_andThen]
  cases push16 v s <;> rfl

/-- A meaning that pops and then only updates the state, as it may by the configuration. -/
theorem pop16_andThen {s : State} {k : Word → State → Res Unit} {done : Word → State → State}
    (hk : ∀ v t, t.cfg = s.cfg → k v t = .ok () (done v t)) : ((pop16 s).andThen k).finish = s.popOutcome done := by
  unfold pop16 State.popOutcome
  cases h1 : s.readResult s.sp with
  | none => rw [rd8_none h1]; rfl
  | some r =>
    obtain ⟨lo, s1⟩ := r
    have e1 := State.eq_of_readResult h1
    have hsp : s1.sp = s.sp := by rw [e1]; rfl
    rw [rd8_some h1]
    simp only [Res.andThen, hsp]
    cases h2 : State.readResult { s1 with sp := s.sp + 1 } (s.sp + 1) with
    | none => rw [rd8_none h2]; rfl
    | some r =>
      obtain ⟨hi, s3⟩ := r
      have e2 := State.eq_of_readResult h2
      have hsp3 : s3.sp + 1 = s.sp + 2 := by rw [e2]; exact BitVec.add_assoc s.sp 1 1
      have hcfg : s3.cfg = s.cfg := by rw [e2]; show s1.cfg = s.cfg; rw [e1]; rfl
      rw [rd8_some h2]
      simp only [hsp3, hk (word hi lo) { s3 with sp := s.sp + 2 } hcfg]
      rfl

/-! ## Two stack bytes in storage, and two plain bytes at SP -/

theorem not_bootOff_of_keepsWrites {cfg : Cfg} {a : Word} (h : keepsWrites cfg a) :
    ¬(a = cfg.addrBootOff ∧ isRegisterRange a) := by
  rintro ⟨ha, hr⟩
  unfold isRegisterRange at hr
  rcases h with h | h | ⟨-, -, h, -⟩
  · omega
  · omega
  · exact h ha

/-- The lower stack byte does not touch the upper one. -/
theorem not_touches_stack {cfg : Cfg} {sp : Word} (h : keepsWrites cfg (sp - 2)) : ¬touches cfg (sp - 2) (sp - 1) := by
  rintro (h1 | h1 | ⟨h1, h2, -⟩)
  · bv_omega
  · unfold echoes at h1
    bv_omega
  · exact not_bootOff_of_keepsWrites h ⟨h1, h2⟩

/-- With both stack bytes in storage a push completes: the word stands there, and of the CPU's state SP and the counters changed. -/
theorem pushOutcome_keepsWrites {s : State} (v : Word) (done : State → State) (hw : Memory.wf s.mem)
    (h1 : keepsWrites s.cfg (s.sp - 1)) (h2 : keepsWrites s.cfg (s.sp - 2)) :
    ∃ t, s.pushOutcome v done = .next (done t) ∧ t.lookup (s.sp - 1) = .byte (hi8 v) ∧
      t.lookup (s.sp - 2) = .byte (lo8 v) ∧ SameCpu (State.counted { s with sp := s.sp - 2 } 2) t := by
  obtain ⟨s2, hs2, hl2⟩ := State.store_keepsWrites (s := { s with sp := s.sp - 1 }) (hi8 v) hw h1
  have c2 := State.store_sameCpu hs2
  have h2' : keepsWrites (State.counted { s2 with sp := s.sp - 2 } 1).cfg (s.sp - 2) := by
    show keepsWrites s2.cfg _
    rw [c2.cfg]
    exact h2
  obtain ⟨s4, hs4, hl4⟩ := State.store_keepsWrites (s := State.counted { s2 with sp := s.sp - 2 } 1) (lo8 v)
    ((State.store_mem hs2).1 hw) h2'
  have c4 := State.store_sameCpu hs4
  have hhi : s4.lookup (s.sp - 1) = .byte (hi8 v) :=
    (State.lookup_store_of_not_touches hs4 (not_touches_stack h2')).trans hl2
  refine ⟨s4.counted 1, ?_, hhi, hl4, ?_⟩
  · simp only [State.pushOutcome, hs2, hs4]
  · exact {
      a := c4.a.trans c2.a, f := c4.f.trans c2.f, b := c4.b.trans c2.b, c := c4.c.trans c2.c, d := c4.d.trans c2.d
      e := c4.e.trans c2.e, h := c4.h.trans c2.h, l := c4.l.trans c2.l, sp := c4.sp, pc := c4.pc.trans c2.pc
      m := by show s4.m + 1 = s.m + 2; rw [c4.m]; show s2.m + 1 + 1 = s.m + 2; rw [c2.m]
      t := by show s4.t + 4 * 1 = s.t + 4 * 2; rw [c4.t]; show s2.t + 4 * 1 + 4 * 1 = _; rw [c2.t]
      ime := c4.ime.trans c2.ime, pendDi := c4.pendDi.trans c2.pendDi, pendEi := c4.pendEi.trans c2.pendEi
      fault := c4.fault.trans c2.fault, draws := c4.draws.trans c2.draws, cfg := c4.cfg.trans c2.cfg }

/-- From two plain bytes a pop completes. -/
theorem popOutcome_bytes {s : State} {lo hi : Byte} (done : Word → State → State) (h1 : s.lookup s.sp = .byte lo)
    (h2 : s.lookup (s.sp + 1) = .byte hi) :
    s.popOutcome done = .next (done (word hi lo) (State.counted { s with sp := s.sp + 2 } 2)) := by
  have h2' : State.readResult { s.counted 1 with sp := s.sp + 1 } (s.sp + 1) = _ := State.readResult_byte h2
  simp only [State.popOutcome, State.readResult_byte h1, h2']
  rfl

/-! ## PUSH and POP (R221, R222) -/

theorem exec_pushPair_eq (p : Pair) (s : State) : exec (Instr.pushPair p) s =
    (s.counted (s.cfg.extraCycles (0b11#2 ++ p.code ++ 0b0101#4))).pushOutcome (s.getPair p) id := by
  rw [exec_pushPair, pushPair, push16_finish]
  rfl

/-- Settles O50. -/
theorem pushResult : Obligations.PushResult := fun p s => ⟨exec_pushPair_eq p s, by cases p <;> decide⟩

theorem exec_popPair_eq (p : Pair) (s : State) :
    exec (Instr.popPair p) s = s.popOutcome fun v t => t.setPair p v := by
  rw [exec_popPair, popPair]
  exact pop16_andThen fun _ _ _ => rfl

/-- Settles O51. -/
theorem popResult : Obligations.PopResult := by
  refine fun p s => ⟨exec_popPair_eq p s, fun lo hi h1 h2 => ?_⟩
  rw [exec_popPair_eq, popOutcome_bytes _ h1 h2]
  cases p <;> rfl

/-- Settles O54: the pop reads the two bytes the push stored. -/
theorem pushThenPopRestores : Obligations.PushThenPopRestores := by
  intro p s hw h1 h2
  obtain ⟨t, ht, hhi, hlo, hc⟩ := pushOutcome_keepsWrites
    (s := s.counted (s.cfg.extraCycles (0b11#2 ++ p.code ++ 0b0101#4))) (s.getPair p) id hw h1 h2
  have hsp : t.sp = s.sp - 2 := hc.sp
  have hlo' : t.lookup t.sp = .byte (lo8 (s.getPair p)) := by rw [hsp]; exact hlo
  have hhi' : t.lookup (t.sp + 1) = .byte (hi8 (s.getPair p)) := by
    rw [hsp, show s.sp - 2 + 1 = s.sp - 1 by bv_omega]; exact hhi
  refine ⟨t, _, (exec_pushPair_eq p s).trans ht, (popResult p t).2 _ _ hlo' hhi', hsp, hhi, hlo, ?_, ?_, hc.fault, ?_, ?_⟩
  · rw [hi8_lo8]
    refine Eq.trans ?_ (State.getPair_setPair_self t p (s.getPair p))
    cases p <;> rfl
  · show t.sp + 2 = s.sp
    rw [hsp, BitVec.sub_add_cancel]
  · exact (State.setPair_fault _ _ _).trans hc.fault
  · rw [opcode_pushPair]
    show t.m + 2 = _
    rw [hc.m]
    simp only [State.counted]
    omega

/-! ## CALL and RET (R223, R224, R225) -/

theorem exec_callA16_eq (b1 b2 : Byte) (s : State) : exec (.callA16 b1 b2) s =
    (s.counted (s.cfg.extraCycles 0xCD)).pushOutcome s.pc fun t => { t with pc := imm16 s.cfg.imm16Order b1 b2 } := by
  rw [exec_callA16, callAbsolute, push16_andThen]
  rfl

theorem imm16_highFirst {order : ByteOrder} (h : order = .highFirst) (b1 b2 : Byte) : imm16 order b1 b2 = word b1 b2 := by
  rw [h]; rfl

theorem imm16_lowFirst {order : ByteOrder} (h : order = .lowFirst) (b1 b2 : Byte) : imm16 order b1 b2 = word b2 b1 := by
  rw [h]; rfl

/-- With both stack bytes in storage CALL completes. -/
theorem exec_callA16_keepsWrites (b1 b2 : Byte) {s : State} (hw : Memory.wf s.mem) (h1 : keepsWrites s.cfg (s.sp - 1))
    (h2 : keepsWrites s.cfg (s.sp - 2)) :
    ∃ t, exec (.callA16 b1 b2) s = .next t ∧ t.lookup (s.sp - 1) = .byte (hi8 s.pc) ∧
      t.lookup (s.sp - 2) = .byte (lo8 s.pc) ∧
      SameCpu (State.counted { s with pc := imm16 s.cfg.imm16Order b1 b2, sp := s.sp - 2 } (s.cfg.extraCycles 0xCD + 2)) t := by
  obtain ⟨t, ht, hhi, hlo, hc⟩ := pushOutcome_keepsWrites (s := s.counted (s.cfg.extraCycles 0xCD)) s.pc
    (fun t => { t with pc := imm16 s.cfg.imm16Order b1 b2 }) hw h1 h2
  have hc' : SameCpu (State.counted { s with sp := s.sp - 2 } (s.cfg.extraCycles 0xCD + 2)) t := by
    rw [← State.counted_counted]
    exact hc
  exact ⟨_, (exec_callA16_eq b1 b2 s).trans ht, hhi, hlo, { hc' with pc := rfl }⟩

/-- Settles O52. -/
theorem callResult : Obligations.CallResult := by
  refine ⟨rfl, fun b1 b2 s => ⟨fun h => ?_, fun h => ?_, fun hw h1 h2 => ?_⟩⟩
  · rw [exec_callA16_eq, imm16_highFirst h]
  · rw [exec_callA16_eq, imm16_lowFirst h]
  · obtain ⟨t, ht, hhi, hlo, hc⟩ := exec_callA16_keepsWrites b1 b2 hw h1 h2
    exact ⟨t, ht, fun h => hc.pc.trans (imm16_highFirst h _ _), fun h => hc.pc.trans (imm16_lowFirst h _ _), hc.sp, hhi, hlo,
      hc.m, hc.fault⟩

theorem exec_ret_eq (s : State) :
    exec .ret s = s.popOutcome fun v t => { t.counted (s.cfg.extraCycles 0xC9) with pc := v } := by
  rw [exec_ret, returnFromCall]
  exact pop16_andThen fun v t hc => by rw [hc]; rfl

/-- Settles O53. -/
theorem returnResult : Obligations.ReturnResult := by
  refine ⟨rfl, fun s => ⟨exec_ret_eq s, fun lo hi h1 h2 => ?_⟩⟩
  rw [exec_ret_eq, popOutcome_bytes _ h1 h2, ← State.counted_counted]
  rfl

/-- The step of a CALL with both stack bytes in storage: the address after it stands at SP. -/
theorem step_callA16 {s : State} {b1 b2 : Byte} (h : s.about (.callA16 b1 b2)) (hw : Memory.wf s.mem)
    (h1 : keepsWrites s.cfg (s.sp - 1)) (h2 : keepsWrites s.cfg (s.sp - 2)) :
    ∃ t, step s = .next t ∧ t.fault = none ∧ t.pc = imm16 s.cfg.imm16Order b1 b2 ∧ t.sp = s.sp - 2 ∧ t.cfg = s.cfg ∧
      t.lookup (s.sp - 1) = .byte (hi8 (s.pc + 3)) ∧ t.lookup (s.sp - 2) = .byte (lo8 (s.pc + 3)) ∧
      t.m = s.m + (5 + s.cfg.extraCycles 0xCD) := by
  obtain ⟨t, ht, hhi, hlo, hc⟩ := exec_callA16_keepsWrites (s := s.fetched 3) b1 b2 hw h1 h2
  have hf : t.fault = none := hc.fault.trans h.1
  have hm : t.m = s.m + 3 + (s.cfg.extraCycles 0xCD + 2) := hc.m
  refine ⟨t.counted 0, step_of_about_next (k := 0) h rfl ht hf rfl, hf, hc.pc, hc.sp, hc.cfg, hhi, hlo, ?_⟩
  show t.m + 0 = _
  omega

/-- The step of a RET with two plain bytes at SP. -/
theorem step_ret {s : State} {lo hi : Byte} (h : s.about .ret) (h1 : s.lookup s.sp = .byte lo)
    (h2 : s.lookup (s.sp + 1) = .byte hi) :
    ∃ t, step s = .next t ∧ t.fault = none ∧ t.pc = word hi lo ∧ t.sp = s.sp + 2 ∧
      t.m = s.m + (3 + s.cfg.extraCycles 0xC9) := by
  have hx := (returnResult.2 (s.fetched 1)).2 lo hi h1 h2
  refine ⟨_, step_of_about_next (k := 0) h rfl hx h.1 rfl, h.1, rfl, rfl, ?_⟩
  show s.m + 1 + (2 + s.cfg.extraCycles 0xC9) + 0 = _
  omega

/-- Settles O55: the CALL leaves the address after it at SP, where the RET finds it. -/
theorem callThenReturnRestores : Obligations.CallThenReturnRestores := by
  intro s b1 b2 h hp hw h1 h2
  obtain ⟨t, ht, hf, hpc, hsp, hcfg, hhi, hlo, hm⟩ := step_callA16 h hw h1 h2
  refine ⟨t, ht, hf, hsp, fun ho => hpc.trans (imm16_highFirst ho _ _), fun ho => hpc.trans (imm16_lowFirst ho _ _),
    fun hret => ?_⟩
  have habout : t.about .ret := State.about_of_holds hf rfl rfl nofun (hcfg ▸ hp) ⟨hret, trivial⟩
  rw [← hsp] at hlo
  rw [show s.sp - 1 = t.sp + 1 by rw [hsp]; bv_omega] at hhi
  obtain ⟨u, hu, hfu, hpcu, hspu, hmu⟩ := step_ret habout hlo hhi
  have hsum : u.m = s.m + (8 + s.cfg.extraCycles 0xCD + s.cfg.extraCycles 0xC9) := by
    rw [hmu, hm, hcfg]
    omega
  refine ⟨u, hu, hfu, hpcu.trans (hi8_lo8 _), ?_, hsum, fun hx => ?_⟩
  · rw [hspu, hsp, BitVec.sub_add_cancel]
  · rw [extraCycles_of_extraM hx, extraCycles_of_extraM hx] at hsum
    exact hsum

end Sys2Proof.Machine
end

section
/-! SUPPORT. The family of frames (R24, R27, R29, R63, R148): what the opcode byte of an instruction lets it write, as a footprint
that each of its updates stays within. -/

set_option Elab.async false

namespace Sys2Proof.Machine

/-! ## Footprints -/

/-- What may be written: registers, F, SP, PC, the pending flags, and the bytes at some addresses. -/
structure Footprint where
  regs : List Reg8
  flags : Bool
  sp : Bool
  pc : Bool
  pend : Bool
  stores : List Word

/-- The footprint of an instruction, by its opcode byte and the addresses it stores to. -/
def footprint (i : Instr) (s : State) : Footprint where
  regs := destRegs i.opcode
  flags := writesFlags i.opcode
  sp := decide (i.opcode ∈ ([0x31, 0xC5, 0xD5, 0xE5, 0xC1, 0xD1, 0xE1, 0xCD, 0xC9] : List Byte))
  pc := decide (i.opcode ∈ ([0xCD, 0xC9, 0xCB] : List Byte))
  pend := decide (i.opcode ∈ ([0xF3, 0xFB] : List Byte))
  stores := storeAddresses i s

/-- Memory and every byte register behind the bus, and BOOT_DONE, are as they were. -/
def SameStorage (s t : State) : Prop :=
  t.mem = s.mem ∧ t.bootDone = s.bootDone ∧ t.ifReg = s.ifReg ∧ t.ieReg = s.ieReg ∧ t.lcdc = s.lcdc ∧ t.stat = s.stat ∧
    t.scy = s.scy ∧ t.scx = s.scx ∧ t.bgp = s.bgp

/-- The second state differs from the first within a footprint. -/
structure Within (w : Footprint) (s t : State) : Prop where
  reg : ∀ r, r ∉ w.regs → t.getReg r = s.getReg r
  f : w.flags = false → t.f = s.f
  sp : w.sp = false → t.sp = s.sp
  pc : w.pc = false → t.pc = s.pc
  pend : w.pend = false → t.pendDi = s.pendDi ∧ t.pendEi = s.pendEi
  ime : t.ime = s.ime
  cfg : t.cfg = s.cfg
  bus : ∀ b, (∀ a ∈ w.stores, ¬touches s.cfg a b) → t.lookup b = s.lookup b
  bootDone : s.cfg.addrBootOff ∉ w.stores → t.bootDone = s.bootDone
  storage : w.stores = [] → SameStorage s t

section
variable {w : Footprint} {s t u : State}

theorem SameStorage.lookup (h : SameStorage s t) (hc : t.cfg = s.cfg) (b : Word) : t.lookup b = s.lookup b := by
  obtain ⟨hm, hb, hif, hie, h1, h2, h3, h4, h5⟩ := h
  exact State.lookup_congr hm hb hc hif hie h1 h2 h3 h4 h5 b

/-- An update of the CPU alone. -/
theorem Within.of_sameStorage (hreg : ∀ r, r ∉ w.regs → t.getReg r = s.getReg r) (hf : w.flags = false → t.f = s.f)
    (hsp : w.sp = false → t.sp = s.sp) (hpc : w.pc = false → t.pc = s.pc)
    (hpend : w.pend = false → t.pendDi = s.pendDi ∧ t.pendEi = s.pendEi) (hime : t.ime = s.ime) (hcfg : t.cfg = s.cfg)
    (hs : SameStorage s t) : Within w s t :=
  ⟨hreg, hf, hsp, hpc, hpend, hime, hcfg, fun b _ => hs.lookup hcfg b, fun _ => hs.2.1, fun _ => hs⟩

theorem Within.refl (w : Footprint) (s : State) : Within w s s :=
  .of_sameStorage (fun _ _ => rfl) (fun _ => rfl) (fun _ => rfl) (fun _ => rfl) (fun _ => ⟨rfl, rfl⟩) rfl rfl
    ⟨rfl, rfl, rfl, rfl, rfl, rfl, rfl, rfl, rfl⟩

theorem Within.trans (h : Within w s t) (g : Within w t u) : Within w s u where
  reg r hr := (g.reg r hr).trans (h.reg r hr)
  f hf := (g.f hf).trans (h.f hf)
  sp hsp := (g.sp hsp).trans (h.sp hsp)
  pc hpc := (g.pc hpc).trans (h.pc hpc)
  pend hp := ⟨(g.pend hp).1.trans (h.pend hp).1, (g.pend hp).2.trans (h.pend hp).2⟩
  ime := g.ime.trans h.ime
  cfg := g.cfg.trans h.cfg
  bus b hb := (g.bus b (h.cfg ▸ hb)).trans (h.bus b hb)
  bootDone hb := (g.bootDone (h.cfg ▸ hb)).trans (h.bootDone hb)
  storage hs := by
    obtain ⟨g1, g2, g3, g4, g5, g6, g7, g8, g9⟩ := g.storage hs
    obtain ⟨h1, h2, h3, h4, h5, h6, h7, h8, h9⟩ := h.storage hs
    exact ⟨g1.trans h1, g2.trans h2, g3.trans h3, g4.trans h4, g5.trans h5, g6.trans h6, g7.trans h7,
      g8.trans h8, g9.trans h9⟩

theorem Within.counted (n : Nat) : Within w s (s.counted n) :=
  { Within.refl w s with reg := fun r _ => by cases r <;> rfl }

theorem Within.faulted (e : Fault) : Within w s (s.faulted e) :=
  { Within.refl w s with reg := fun r _ => by cases r <;> rfl }

theorem Within.withF (h : w.flags = true) (f : Byte) : Within w s { s with f := f } :=
  { Within.refl w s with reg := fun r _ => by cases r <;> rfl, f := fun hf => by rw [h] at hf; cases hf }

theorem Within.withSp (h : w.sp = true) (v : Word) : Within w s { s with sp := v } :=
  { Within.refl w s with reg := fun r _ => by cases r <;> rfl, sp := fun hf => by rw [h] at hf; cases hf }

theorem Within.withPc (h : w.pc = true) (v : Word) : Within w s { s with pc := v } :=
  { Within.refl w s with reg := fun r _ => by cases r <;> rfl, pc := fun hf => by rw [h] at hf; cases hf }

theorem Within.withPend (h : w.pend = true) (di ei : Bool) : Within w s { s with pendDi := di, pendEi := ei } :=
  { Within.refl w s with reg := fun r _ => by cases r <;> rfl, pend := fun hf => by rw [h] at hf; cases hf }

theorem Within.setReg {r : Reg8} (h : r ∈ w.regs) (v : Byte) : Within w s (s.setReg r v) :=
  .of_sameStorage (fun r' hr' => State.getReg_setReg_of_ne s r r' v fun e => hr' (e ▸ h)) (fun _ => State.setReg_f _ _ _)
    (fun _ => State.setReg_sp _ _ _) (fun _ => State.setReg_pc _ _ _) (fun _ => by simp) (State.setReg_ime _ _ _)
    (State.setReg_cfg _ _ _) (by simp [SameStorage])

/-- The two registers of a pair (R22). -/
def Pair.regs : Pair → List Reg8
  | .bc => [.b, .c]
  | .de => [.d, .e]
  | .hl => [.h, .l]

theorem Within.setPair {p : Pair} (h : ∀ r ∈ p.regs, r ∈ w.regs) (v : Word) : Within w s (s.setPair p v) := by
  refine .of_sameStorage (fun r hr => ?_) (fun _ => State.setPair_f _ _ _) (fun _ => State.setPair_sp _ _ _)
    (fun _ => State.setPair_pc _ _ _) (fun _ => by simp) (State.setPair_ime _ _ _) (State.setPair_cfg _ _ _)
    (by simp [SameStorage])
  have hp : r ∉ p.regs := fun hp => hr (h r hp)
  cases p <;> cases r <;> first | rfl | exact absurd (by decide) hp

theorem Within.store {a : Word} {v : Byte} (ha : a ∈ w.stores) (h : s.store a v = some t) : Within w s t := by
  have hc := State.store_sameCpu h
  refine ⟨fun r _ => hc.getReg r, fun _ => hc.f, fun _ => hc.sp, fun _ => hc.pc, fun _ => ⟨hc.pendDi, hc.pendEi⟩, hc.ime,
    hc.cfg, fun b hb => State.lookup_store_of_not_touches h (hb a ha), fun hb => ?_, fun hw => ?_⟩
  · have hs := State.store_stored h
    have ho := State.ownedBy s a
    generalize s.ownerOf a = o at hs ho
    cases hs with
    | bootComplete => cases ho with | bootComplete he => exact absurd (he ▸ ha) hb
    | _ => rfl
  · rw [hw] at ha
    cases ha

/-! ## The shared operations -/

theorem Within.readResult {a : Word} {v : Byte} (h : s.readResult a = some (v, t)) : Within w s t := by
  rw [State.eq_of_readResult h]
  exact { Within.refl w s with reg := fun r _ => by cases r <;> rfl }

theorem Within.storeOutcome {a : Word} {v : Byte} (ha : a ∈ w.stores) (h : s.storeOutcome a v = .next t) : Within w s t := by
  unfold State.storeOutcome at h
  cases hs : s.store a v <;> rw [hs] at h <;> cases h
  · exact .faulted _
  · exact (Within.store ha hs).trans (.counted 1)

theorem Within.pushOutcome {v : Word} {done : State → State} (hsp : w.sp = true) (h1 : s.sp - 1 ∈ w.stores)
    (h2 : s.sp - 2 ∈ w.stores) (hd : ∀ u, Within w u (done u)) (h : s.pushOutcome v done = .next t) : Within w s t := by
  simp only [State.pushOutcome] at h
  refine (Within.withSp hsp (s.sp - 1)).trans ?_
  cases hs : State.store { s with sp := s.sp - 1 } (s.sp - 1) (hi8 v) with
  | none => rw [hs] at h; cases h; exact .faulted _
  | some s2 =>
    simp only [hs] at h
    refine (Within.store h1 hs).trans (((Within.withSp hsp (s.sp - 2)).trans (.counted 1)).trans ?_)
    cases hs' : State.store (State.counted { s2 with sp := s.sp - 2 } 1) (s.sp - 2) (lo8 v) with
    | none => rw [hs'] at h; cases h; exact .faulted _
    | some s4 => rw [hs'] at h; cases h; exact ((Within.store h2 hs').trans (.counted 1)).trans (hd _)

theorem Within.popOutcome {done : Word → State → State} (hsp : w.sp = true) (hd : ∀ v u, Within w u (done v u))
    (h : s.popOutcome done = .next t) : Within w s t := by
  simp only [State.popOutcome] at h
  cases hs : s.readResult s.sp with
  | none => rw [hs] at h; cases h; exact .faulted _
  | some r =>
    obtain ⟨lo, s1⟩ := r
    simp only [hs] at h
    refine (Within.readResult hs).trans ((Within.withSp hsp (s.sp + 1)).trans ?_)
    cases hs' : State.readResult { s1 with sp := s.sp + 1 } (s.sp + 1) with
    | none => rw [hs'] at h; cases h; exact .faulted _
    | some r =>
      obtain ⟨hi, s3⟩ := r
      rw [hs'] at h
      cases h
      exact ((Within.readResult hs').trans (.withSp hsp _)).trans (hd _ _)

theorem Within.aluApply {op : AluOp} (hf : w.flags = true) (ha : op.writesA = true → .a ∈ w.regs) (v : Byte) :
    Within w s (aluApply op v s) := by
  have hflags (z n h c : Bool) : Within w s (s.setFlags z n h c) := .withF hf _
  by_cases hw : op.writesA = true
  · simp only [Machine.aluApply, hw, if_true]
    exact (hflags _ _ _ _).trans (.setReg (ha hw) _)
  · simp only [Machine.aluApply, hw]
    exact hflags _ _ _ _

theorem Within.stepReg {out : Byte → AluOut} {r : Reg8} (hf : w.flags = true) (hr : r ∈ w.regs)
    (h : stepReg out r s = .next t) : Within w s t := by
  rw [stepReg_eq] at h
  cases h
  exact (Within.setReg hr _).trans (.withF hf _)

theorem Within.stepAtHl {out : Byte → AluOut} (hf : w.flags = true) (ha : s.getPair .hl ∈ w.stores)
    (h : stepAtHl out s = .next t) : Within w s t := by
  cases hr : s.readResult (s.getPair .hl) with
  | none => rw [stepAtHl_none hr] at h; cases h; exact .faulted _
  | some r =>
    obtain ⟨v, t1⟩ := r
    rw [stepAtHl_some hr] at h
    exact ((Within.readResult hr).trans (.withF hf _)).trans (.storeOutcome ha h)

end

end Sys2Proof.Machine
end

section
/-! SUPPORT. Every instruction stays within its footprint, and the frames of R24, R27, R29 and R148 that follow. -/

set_option Elab.async false

namespace Sys2Proof.Machine

theorem footprint_mem_regs {i : Instr} {s : State} {r : Reg8} {op : Byte} (ho : i.opcode = op) (h : r ∈ destRegs op) :
    r ∈ (footprint i s).regs := by
  subst ho
  exact h

theorem footprint_flags {i : Instr} {s : State} {op : Byte} (ho : i.opcode = op) (h : writesFlags op = true) :
    (footprint i s).flags = true := by
  subst ho
  exact h

/-- The operations that write A have A for their destination in each form. -/
theorem mem_destRegs_alu {op : AluOp} (hw : op.writesA = true) (r : Reg8) :
    .a ∈ destRegs (0b10#2 ++ op.code ++ r.code) ∧ .a ∈ destRegs (0b10#2 ++ op.code ++ 0b110#3) ∧
      .a ∈ destRegs (0b11#2 ++ op.code ++ 0b110#3) := by
  revert hw
  cases op <;> cases r <;> decide

/-- The byte that selects the extended table, where a byte stands at PC and where none does (R143). -/
theorem exec_prefixByte_some {s t : State} {op2 : Byte} (h : s.readResult s.pc = some (op2, t)) : exec .prefixByte s =
    .next (State.faulted { t with pc := s.pc + 1 } (.unimplementedExtendedOpcode s.cfg.prefixByte op2)) := by
  rw [exec_prefixByte]
  unfold State.readResult at h
  cases hl : s.lookup s.pc <;> rw [hl] at h <;> cases h <;> rfl

theorem exec_prefixByte_none {s : State} (h : s.readResult s.pc = none) :
    exec .prefixByte s = .next (s.faulted (.unmappedAddress s.pc .read)) := by
  rw [exec_prefixByte]
  unfold State.readResult at h
  cases hl : s.lookup s.pc <;> rw [hl] at h <;> cases h
  rfl

/-- Every instruction stays within its footprint. -/
theorem exec_within (i : Instr) (s t : State) (h : exec i s = .next t) : Within (footprint i s) s t := by
  cases instrForm i with
  | ldRegImm8 r d8 =>
    rw [exec_ldRegImm8, loadImm8] at h; cases h
    exact .setReg (footprint_mem_regs (opcode_ldRegImm8 r d8) (by cases r <;> decide)) _
  | ldAtHlD8 d8 =>
    rw [exec_ldAtHlD8, storeImm8, wr8_finish] at h
    exact .storeOutcome List.mem_cons_self h
  | ldPairImm16 p b1 b2 =>
    rw [exec_ldPairImm16, loadPairImm16] at h; cases h
    exact .setPair (fun r hr => footprint_mem_regs (opcode_ldPairImm16 p b1 b2) (by cases p <;> exact hr)) _
  | ldSpD16 b1 b2 => rw [exec_ldSpD16, loadSpImm16] at h; cases h; exact .withSp rfl _
  | ldRegReg r r' =>
    rw [exec_ldRegReg, loadReg] at h; cases h
    exact .setReg (footprint_mem_regs (opcode_ldRegReg r r') (by cases r <;> cases r' <;> decide)) _
  | ldRegAtHl r =>
    have hd : r ∈ (footprint (Instr.ldRegAtHl r) s).regs := footprint_mem_regs (opcode_ldRegAtHl r) (by cases r <;> decide)
    cases hr : s.readResult (s.getPair .hl) with
    | none => rw [(loadFromHl r s).2 hr] at h; cases h; exact .faulted _
    | some p => rw [(loadFromHl r s).1 p.1 p.2 hr] at h; cases h; exact (Within.readResult hr).trans (.setReg hd _)
  | ldAtHlReg r =>
    rw [exec_ldAtHlReg, storeReg, wr8_finish] at h
    exact .storeOutcome (by rw [footprint, storeAddresses_ldAtHlReg]; exact List.mem_cons_self) h
  | ldAtA16A b1 b2 =>
    rw [exec_ldAtA16A, storeAbsolute, wr8_finish] at h
    exact .storeOutcome List.mem_cons_self h
  | ldHlSpR8 r8 =>
    rw [exec_ldHlSpR8, loadHlSpOffset] at h; cases h
    exact ((Within.setPair (p := .hl) (fun r hr => footprint_mem_regs (opcode_ldHlSpR8 r8) hr) _).trans
      (.withF (footprint_flags (opcode_ldHlSpR8 r8) (by decide)) _)).trans (.counted _)
  | aluReg op r =>
    rw [exec_aluReg, aluReg] at h; cases h
    have ho := opcode_aluReg op r
    exact .aluApply (footprint_flags ho (by cases op <;> cases r <;> decide))
      (fun hw => footprint_mem_regs ho (mem_destRegs_alu hw r).1) _
  | aluAtHl op =>
    have ho := opcode_aluAtHl op
    have hf : (footprint (Instr.aluAtHl op) s).flags = true := footprint_flags ho (by cases op <;> decide)
    have ha (hw : op.writesA = true) : .a ∈ (footprint (Instr.aluAtHl op) s).regs :=
      footprint_mem_regs ho (mem_destRegs_alu hw .a).2.1
    obtain ⟨-, -, hsome, hnone⟩ := aluFormsGive_aluApply op s
    cases hr : s.readResult (s.getPair .hl) with
    | none => rw [hnone hr] at h; cases h; exact .faulted _
    | some p => rw [hsome p.1 p.2 hr] at h; cases h; exact (Within.readResult hr).trans (.aluApply hf ha _)
  | aluImm8 op d8 =>
    rw [exec_aluImm8, aluImm8] at h; cases h
    have ho := opcode_aluImm8 op d8
    exact .aluApply (footprint_flags ho (by cases op <;> decide))
      (fun hw => footprint_mem_regs ho (mem_destRegs_alu hw .a).2.2) _
  | incReg r =>
    rw [exec_incReg] at h
    exact .stepReg (footprint_flags (opcode_incReg r) (by cases r <;> decide))
      (footprint_mem_regs (opcode_incReg r) (by cases r <;> decide)) h
  | decReg r =>
    rw [exec_decReg] at h
    exact .stepReg (footprint_flags (opcode_decReg r) (by cases r <;> decide))
      (footprint_mem_regs (opcode_decReg r) (by cases r <;> decide)) h
  | incAtHl => rw [exec_incAtHl] at h; exact .stepAtHl rfl List.mem_cons_self h
  | decAtHl => rw [exec_decAtHl] at h; exact .stepAtHl rfl List.mem_cons_self h
  | pushPair p =>
    rw [exec_pushPair_eq] at h
    have hstores : (footprint (Instr.pushPair p) s).stores = [s.sp - 1, s.sp - 2] := storeAddresses_pushPair p s
    exact (Within.counted _).trans (.pushOutcome (by cases p <;> rfl) (hstores ▸ List.mem_cons_self)
      (hstores ▸ List.mem_cons_of_mem _ List.mem_cons_self) (.refl _) h)
  | popPair p =>
    rw [exec_popPair_eq] at h
    have hd (v : Word) (u : State) : Within (footprint (Instr.popPair p) s) u (u.setPair p v) :=
      .setPair (fun r hr => footprint_mem_regs (opcode_popPair p) (by cases p <;> exact hr)) v
    exact .popOutcome (by cases p <;> rfl) hd h
  | callA16 b1 b2 =>
    rw [exec_callA16_eq] at h
    exact (Within.counted _).trans (.pushOutcome rfl List.mem_cons_self (List.mem_cons_of_mem _ List.mem_cons_self)
      (fun u => .withPc rfl _) h)
  | ret =>
    rw [exec_ret_eq] at h
    exact .popOutcome rfl (fun v u => (Within.counted _).trans (.withPc rfl _)) h
  | di => rw [exec_di] at h; cases h; exact .withPend rfl _ _
  | ei => rw [exec_ei] at h; cases h; exact .withPend (by rfl) false true
  | prefixByte =>
    cases hr : s.readResult s.pc with
    | none => rw [exec_prefixByte_none hr] at h; cases h; exact .faulted _
    | some p =>
      rw [exec_prefixByte_some hr] at h; cases h
      exact (Within.readResult hr).trans ((Within.withPc rfl _).trans (.faulted _))
  | unimplemented op _ _ _ hx => rw [hx, raiseUnimplemented] at h; cases h; exact .faulted _
  | extended op2 _ _ hx => rw [hx, raiseUnimplementedExtended] at h; cases h; exact .faulted _

/-- Settles O22. -/
theorem onlyDestinationRegistersChange : Obligations.OnlyDestinationRegistersChange := fun i s t h =>
  (exec_within i s t h).reg

/-- Settles O24. -/
theorem controlStateFrame : Obligations.ControlStateFrame := by
  intro i s t h
  have hw := exec_within i s t h
  exact ⟨fun ho => hw.sp (decide_eq_false ho), fun ho => hw.pc (decide_eq_false ho), fun ho => hw.pend (decide_eq_false ho),
    hw.ime, hw.cfg⟩

/-- Settles O25. -/
theorem onlyStoredBytesChange : Obligations.OnlyStoredBytesChange := by
  intro i s t h
  have hw := exec_within i s t h
  exact ⟨hw.bus, hw.bootDone, hw.storage⟩

/-! ## The flag writers rebuild F (R27, R190) -/

/-- The forms whose opcode byte says that they write the flags. -/
inductive FlagWriter : Instr → Prop where
  | ldHlSpR8 (r8 : Byte) : FlagWriter (.ldHlSpR8 r8)
  | aluReg (op : AluOp) (r : Reg8) : FlagWriter (Instr.aluReg op r)
  | aluAtHl (op : AluOp) : FlagWriter (Instr.aluAtHl op)
  | aluImm8 (op : AluOp) (d8 : Byte) : FlagWriter (Instr.aluImm8 op d8)
  | onReg {i : Instr} (out : Cfg → Byte → AluOut) (r : Reg8) (h : ∀ s, exec i s = stepReg (out s.cfg) r s) : FlagWriter i
  | onHl {i : Instr} (out : Cfg → Byte → AluOut) (h : ∀ s, exec i s = stepAtHl (out s.cfg) s) : FlagWriter i

theorem not_writesFlags {i : Instr} {op : Byte} (ho : i.opcode = op) (h : writesFlags op = false) :
    ¬writesFlags i.opcode = true := by
  rw [ho, h]
  nofun

theorem flagWriter_of_writesFlags {i : Instr} (hw : writesFlags i.opcode = true) : FlagWriter i := by
  cases instrForm i with
  | ldHlSpR8 r8 => exact .ldHlSpR8 r8
  | aluReg op r => exact .aluReg op r
  | aluAtHl op => exact .aluAtHl op
  | aluImm8 op d8 => exact .aluImm8 op d8
  | incReg r => exact .onReg (fun _ => incOut) r fun s => exec_incReg s r
  | decReg r => exact .onReg decOut r fun s => exec_decReg s r
  | incAtHl => exact .onHl (fun _ => incOut) exec_incAtHl
  | decAtHl => exact .onHl decOut exec_decAtHl
  | ldRegImm8 r d8 => exact absurd hw (not_writesFlags (opcode_ldRegImm8 r d8) (by cases r <;> decide))
  | ldAtHlD8 d8 => exact absurd hw (not_writesFlags (opcode_ldAtHlD8 d8) (by decide))
  | ldPairImm16 p b1 b2 => exact absurd hw (not_writesFlags (opcode_ldPairImm16 p b1 b2) (by cases p <;> decide))
  | ldSpD16 b1 b2 => exact absurd hw (not_writesFlags (opcode_ldSpD16 b1 b2) (by decide))
  | ldRegReg r r' => exact absurd hw (not_writesFlags (opcode_ldRegReg r r') (by cases r <;> cases r' <;> decide))
  | ldRegAtHl r => exact absurd hw (not_writesFlags (opcode_ldRegAtHl r) (by cases r <;> decide))
  | ldAtHlReg r => exact absurd hw (not_writesFlags (opcode_ldAtHlReg r) (by cases r <;> decide))
  | ldAtA16A b1 b2 => exact absurd hw (not_writesFlags (opcode_ldAtA16A b1 b2) (by decide))
  | pushPair p => exact absurd hw (not_writesFlags (opcode_pushPair p) (by cases p <;> decide))
  | popPair p => exact absurd hw (not_writesFlags (opcode_popPair p) (by cases p <;> decide))
  | callA16 b1 b2 => exact absurd hw (not_writesFlags (opcode_callA16 b1 b2) (by decide))
  | ret | di | ei | prefixByte => exact absurd hw (by decide)
  | unimplemented op _ he _ _ _ _ hf => exact absurd hw (not_writesFlags (opcode_of_encode he) hf)
  | extended op2 _ he => exact absurd hw (not_writesFlags (opcode_of_encode he) (by decide))

/-- A read does not look at F. -/
theorem State.readResult_withF {s t : State} {a : Word} {v : Byte} (x : Byte) (h : s.readResult a = some (v, t)) :
    State.readResult { s with f := x } a = some (v, { t with f := x }) := by
  unfold State.readResult at h ⊢
  rw [show State.lookup { s with f := x } a = s.lookup a from rfl]
  cases hl : s.lookup a <;> rw [hl] at h <;> cases h <;> rfl

/-- What a completed flag writer leaves in F does not depend on what F held. -/
theorem flagWriter_rebuilds {i : Instr} (hi : FlagWriter i) {s t u : State} {x : Byte} (ht : exec i s = .next t)
    (hf : t.fault = none) (hu : exec i { s with f := x } = .next u) : u.f = t.f := by
  cases hi with
  | ldHlSpR8 r8 => rw [exec_ldHlSpR8, loadHlSpOffset] at ht hu; cases ht; cases hu; rfl
  | aluReg op r =>
    rw [exec_aluReg, aluReg] at ht hu
    cases ht
    cases hu
    rw [aluApply_f, aluApply_f, State.getReg_withF]
  | aluImm8 op d8 =>
    rw [exec_aluImm8, aluImm8] at ht hu
    cases ht
    cases hu
    rw [aluApply_f, aluApply_f]
  | aluAtHl op =>
    cases hr : s.readResult (s.getPair .hl) with
    | none => rw [(aluFormsGive_aluApply op s).2.2.2 hr] at ht; cases ht; cases hf
    | some p =>
      rw [(aluFormsGive_aluApply op s).2.2.1 p.1 p.2 hr] at ht
      rw [(aluFormsGive_aluApply op _).2.2.1 _ _ (State.readResult_withF x hr)] at hu
      cases ht
      cases hu
      rw [aluApply_f, aluApply_f]
  | onReg out r h =>
    rw [h, stepReg_eq] at ht hu
    cases ht
    cases hu
    rw [State.getReg_withF]
  | onHl out h =>
    rw [h] at ht hu
    cases hr : s.readResult (s.getPair .hl) with
    | none => rw [stepAtHl_none hr] at ht; cases ht; cases hf
    | some p =>
      rw [stepAtHl_some hr] at ht
      rw [stepAtHl_some (State.readResult_withF x hr)] at hu
      cases ht.symm.trans hu
      rfl

/-- Settles O23. -/
theorem onlyFlagWritersChangeF : Obligations.OnlyFlagWritersChangeF := fun i s t h =>
  ⟨(exec_within i s t h).f, fun hw _ hf _ _ hu => flagWriter_rebuilds (flagWriter_of_writesFlags hw) h hf hu⟩

end Sys2Proof.Machine
end

section
/-! SUPPORT. The family of cycle counts (R146, R306) and of the unimplemented entries of both tables (R143 to R145). -/

set_option Elab.async false

namespace Sys2Proof.Machine

/-! ## The cycles a meaning counts itself (R7, R146) -/

/-- The cycles a completed meaning counts: its data accesses, and its extra cycles where its rule places them. -/
def ownCycles (cfg : Cfg) (op : Byte) : Nat := dataAccesses op + if op ∈ placesExtraCycles then cfg.extraCycles op else 0

theorem ownCycles_of_rest {cfg : Cfg} {i : Instr} {op : Byte} (n : Nat) (ho : i.opcode = op)
    (h : dataAccesses op = n ∧ op ∉ placesExtraCycles) : ownCycles cfg i.opcode = n := by
  rw [ho, ownCycles, h.1, if_neg h.2, Nat.add_zero]

theorem ownCycles_of_placed {cfg : Cfg} {i : Instr} {op : Byte} (n : Nat) (ho : i.opcode = op)
    (h : dataAccesses op = n ∧ op ∈ placesExtraCycles) : ownCycles cfg i.opcode = n + cfg.extraCycles op := by
  rw [ho, ownCycles, h.1, if_pos h.2]

section
variable {s t : State}

theorem State.readResult_m {a : Word} {v : Byte} (h : s.readResult a = some (v, t)) : t.m = s.m + 1 := by
  rw [State.eq_of_readResult h]
  rfl

theorem State.storeOutcome_m {a : Word} {v : Byte} (h : s.storeOutcome a v = .next t) (hf : t.fault = none) :
    t.m = s.m + 1 := by
  unfold State.storeOutcome at h
  cases hs : s.store a v with
  | none => rw [hs] at h; cases h; cases hf
  | some u => rw [hs] at h; cases h; exact congrArg (· + 1) (State.store_sameCpu hs).m

theorem State.pushOutcome_m {v : Word} {done : State → State} (hd : ∀ u, (done u).m = u.m)
    (h : s.pushOutcome v done = .next t) (hf : t.fault = none) : t.m = s.m + 2 := by
  simp only [State.pushOutcome] at h
  cases hs : State.store { s with sp := s.sp - 1 } (s.sp - 1) (hi8 v) with
  | none => rw [hs] at h; cases h; cases hf
  | some s2 =>
    simp only [hs] at h
    cases hs' : State.store (State.counted { s2 with sp := s.sp - 2 } 1) (s.sp - 2) (lo8 v) with
    | none => rw [hs'] at h; cases h; cases hf
    | some s4 =>
      have h2 : s2.m = s.m := (State.store_sameCpu hs).m
      have h4 : s4.m = s2.m + 1 := (State.store_sameCpu hs').m
      rw [hs'] at h
      cases h
      rw [hd, show (s4.counted 1).m = s4.m + 1 from rfl, h4, h2]

theorem State.popOutcome_m {n : Nat} {done : Word → State → State} (hd : ∀ v u, (done v u).m = u.m + n)
    (h : s.popOutcome done = .next t) (hf : t.fault = none) : t.m = s.m + (2 + n) := by
  simp only [State.popOutcome] at h
  cases hs : s.readResult s.sp with
  | none => rw [hs] at h; cases h; cases hf
  | some r =>
    obtain ⟨lo, s1⟩ := r
    simp only [hs] at h
    cases hs' : State.readResult { s1 with sp := s.sp + 1 } (s.sp + 1) with
    | none => rw [hs'] at h; cases h; cases hf
    | some r =>
      obtain ⟨hi, s3⟩ := r
      have h1 := State.readResult_m hs
      have h3 : s3.m = s1.m + 1 := State.readResult_m (s := { s1 with sp := s.sp + 1 }) hs'
      rw [hs'] at h
      cases h
      rw [hd, show State.m { s3 with sp := s.sp + 2 } = s3.m from rfl, h3, h1]
      omega

theorem stepAtHl_m {out : Byte → AluOut} (h : stepAtHl out s = .next t) (hf : t.fault = none) : t.m = s.m + 2 := by
  cases hr : s.readResult (s.getPair .hl) with
  | none => rw [stepAtHl_none hr] at h; cases h; cases hf
  | some p =>
    obtain ⟨v, t1⟩ := p
    rw [stepAtHl_some hr] at h
    rw [State.storeOutcome_m h hf, show State.m { t1 with f := (out v).flags } = t1.m from rfl, State.readResult_m hr]

theorem aluApply_m (op : AluOp) (v : Byte) (s : State) : (aluApply op v s).m = s.m := by cases op <;> rfl

end

/-- What a completed instruction adds to M beyond its fetch. -/
theorem exec_m {i : Instr} {s t : State} (h : exec i s = .next t) (hf : t.fault = none) :
    t.m = s.m + ownCycles s.cfg i.opcode := by
  cases instrForm i with
  | ldRegImm8 r d8 =>
    rw [exec_ldRegImm8, loadImm8] at h; cases h
    rw [ownCycles_of_rest 0 (opcode_ldRegImm8 r d8) (by cases r <;> decide)]
    exact State.setReg_m _ _ _
  | ldAtHlD8 d8 =>
    rw [exec_ldAtHlD8, storeImm8, wr8_finish] at h
    rw [ownCycles_of_rest 1 (opcode_ldAtHlD8 d8) (by decide)]
    exact State.storeOutcome_m h hf
  | ldPairImm16 p b1 b2 =>
    rw [exec_ldPairImm16, loadPairImm16] at h; cases h
    rw [ownCycles_of_rest 0 (opcode_ldPairImm16 p b1 b2) (by cases p <;> decide)]
    exact State.setPair_m _ _ _
  | ldSpD16 b1 b2 =>
    rw [exec_ldSpD16, loadSpImm16] at h; cases h
    rw [ownCycles_of_rest 0 (opcode_ldSpD16 b1 b2) (by decide)]; rfl
  | ldRegReg r r' =>
    rw [exec_ldRegReg, loadReg] at h; cases h
    rw [ownCycles_of_rest 0 (opcode_ldRegReg r r') (by cases r <;> cases r' <;> decide)]
    exact State.setReg_m _ _ _
  | ldRegAtHl r =>
    rw [ownCycles_of_rest 1 (opcode_ldRegAtHl r) (by cases r <;> decide)]
    cases hr : s.readResult (s.getPair .hl) with
    | none => rw [(loadFromHl r s).2 hr] at h; cases h; cases hf
    | some p =>
      rw [(loadFromHl r s).1 p.1 p.2 hr] at h; cases h
      exact (State.setReg_m _ _ _).trans (State.readResult_m hr)
  | ldAtHlReg r =>
    rw [exec_ldAtHlReg, storeReg, wr8_finish] at h
    rw [ownCycles_of_rest 1 (opcode_ldAtHlReg r) (by cases r <;> decide)]
    exact State.storeOutcome_m h hf
  | ldAtA16A b1 b2 =>
    rw [exec_ldAtA16A, storeAbsolute, wr8_finish] at h
    rw [ownCycles_of_rest 1 (opcode_ldAtA16A b1 b2) (by decide)]
    exact State.storeOutcome_m h hf
  | ldHlSpR8 r8 =>
    rw [exec_ldHlSpR8, loadHlSpOffset] at h; cases h
    rw [ownCycles_of_placed 0 (opcode_ldHlSpR8 r8) (by decide), Nat.zero_add]; rfl
  | aluReg op r =>
    rw [exec_aluReg, aluReg] at h; cases h
    rw [ownCycles_of_rest 0 (opcode_aluReg op r) (by cases op <;> cases r <;> decide)]
    exact aluApply_m _ _ _
  | aluAtHl op =>
    rw [ownCycles_of_rest 1 (opcode_aluAtHl op) (by cases op <;> decide)]
    obtain ⟨-, -, hsome, hnone⟩ := aluFormsGive_aluApply op s
    cases hr : s.readResult (s.getPair .hl) with
    | none => rw [hnone hr] at h; cases h; cases hf
    | some p => rw [hsome p.1 p.2 hr] at h; cases h; exact (aluApply_m _ _ _).trans (State.readResult_m hr)
  | aluImm8 op d8 =>
    rw [exec_aluImm8, aluImm8] at h; cases h
    rw [ownCycles_of_rest 0 (opcode_aluImm8 op d8) (by cases op <;> decide)]
    exact aluApply_m _ _ _
  | incReg r =>
    rw [exec_incReg, stepReg_eq] at h; cases h
    rw [ownCycles_of_rest 0 (opcode_incReg r) (by cases r <;> decide)]
    exact State.setReg_m _ _ _
  | decReg r =>
    rw [exec_decReg, stepReg_eq] at h; cases h
    rw [ownCycles_of_rest 0 (opcode_decReg r) (by cases r <;> decide)]
    exact State.setReg_m _ _ _
  | incAtHl =>
    rw [exec_incAtHl] at h
    rw [ownCycles_of_rest (i := .incAtHl) 2 rfl (by decide)]
    exact stepAtHl_m h hf
  | decAtHl =>
    rw [exec_decAtHl] at h
    rw [ownCycles_of_rest (i := .decAtHl) 2 rfl (by decide)]
    exact stepAtHl_m h hf
  | pushPair p =>
    rw [exec_pushPair_eq] at h
    rw [ownCycles_of_placed 2 (opcode_pushPair p) (by cases p <;> decide), State.pushOutcome_m (fun _ => rfl) h hf]
    simp only [State.counted]
    omega
  | popPair p =>
    rw [exec_popPair_eq] at h
    rw [ownCycles_of_rest 2 (opcode_popPair p) (by cases p <;> decide)]
    exact State.popOutcome_m (n := 0) (fun v u => State.setPair_m u p v) h hf
  | callA16 b1 b2 =>
    rw [exec_callA16_eq] at h
    have hm : t.m = s.m + s.cfg.extraCycles 0xCD + 2 :=
      State.pushOutcome_m (done := fun t => { t with pc := imm16 s.cfg.imm16Order b1 b2 }) (fun _ => rfl) h hf
    rw [ownCycles_of_placed 2 (opcode_callA16 b1 b2) (by decide)]
    omega
  | ret =>
    rw [exec_ret_eq] at h
    rw [ownCycles_of_placed (i := .ret) 2 rfl (by decide)]
    exact State.popOutcome_m (fun _ _ => rfl) h hf
  | di => rw [exec_di] at h; cases h; rw [ownCycles_of_rest (i := .di) 0 rfl (by decide)]; rfl
  | ei => rw [exec_ei] at h; cases h; rw [ownCycles_of_rest (i := .ei) 0 rfl (by decide)]; rfl
  | prefixByte =>
    cases hr : s.readResult s.pc with
    | none => rw [exec_prefixByte_none hr] at h; cases h; cases hf
    | some p => rw [exec_prefixByte_some hr] at h; cases h; cases hf
  | unimplemented op _ _ _ hx => rw [hx, raiseUnimplemented] at h; cases h; cases hf
  | extended op2 _ _ hx => rw [hx, raiseUnimplementedExtended] at h; cases h; cases hf

/-- What the meaning and the end of the step count together: the data accesses and all of `cfg.EXTRA_M`. -/
theorem ownCycles_add_rest {i : Instr} {s t : State} (h : exec i s = .next t) (hf : t.fault = none) :
    ownCycles s.cfg i.opcode + restCycles s.cfg i = dataAccesses i.opcode + s.cfg.extraCycles i.opcode := by
  rcases restCycles_cases s.cfg i with ⟨ho, hr⟩ | ⟨ho, hr⟩ | hx
  · rw [ownCycles, if_pos ho, hr, Nat.add_zero]
  · rw [ownCycles, if_neg ho, hr, Nat.add_zero]
  · obtain ⟨e, he⟩ := hx s
    rw [h] at he
    cases he
    cases hf

/-- Settles O19: the fetch, what the meaning counts, and what the end of the step adds. -/
theorem completedInstructionCost : Obligations.CompletedInstructionCost := by
  refine ⟨fun s t i ha h hf => ?_, fun _ => rfl, fun op => ?_⟩
  · have hT := (countersGrowTogether s t h).2
    rw [step_of_about ha] at h
    obtain ⟨u, hu, hfu, hend⟩ := endStep_next h
    rw [hf] at hfu
    have hm : u.m = s.m + (encode i).length + ownCycles s.cfg i.opcode := exec_m hu hfu.symm
    have hc : u.cfg = s.cfg := (exec_keeps _ _ _ hu).cfg
    have hsum : ownCycles s.cfg i.opcode + restCycles s.cfg i = dataAccesses i.opcode + s.cfg.extraCycles i.opcode :=
      ownCycles_add_rest (s := s.fetched (encode i).length) hu hfu.symm
    rcases hend with ⟨-, rfl⟩ | ⟨hne, -⟩
    · rw [State.tick_m, State.tick_t, hc] at hT ⊢
      omega
    · exact absurd hfu.symm hne
  · rw [extraCycles_default]
    simp only [placesExtraCycles, List.mem_cons, List.not_mem_nil, or_false]

/-! ## The unimplemented entries of the primary table (R144) -/

theorem exec_unimplementedEntries : ∀ p ∈ Instr.unimplementedEntries, exec p.2 = raiseUnimplemented p.1 :=
  List.map_inj_left.1 rfl

theorem primaryTable_unimplementedEntries : ∀ p ∈ Instr.unimplementedEntries, primaryTable p.1 = .op p.2 :=
  List.map_inj_left.1 rfl

/-- Settles O56: an entry's own instruction raises, and the cell of the table's prefix byte raises at the fetch. -/
theorem unimplementedPrimaryEntriesRaise : Obligations.UnimplementedPrimaryEntriesRaise := by
  refine ⟨rfl, fun p hp s => congrFun (exec_unimplementedEntries p hp) s, fun s op hop hpre hf hl => ?_⟩
  rcases hop with rfl | ⟨p, hp, rfl⟩
  · have hfetch : fetchInstr s.resolve = .raise (.unimplementedOpcode 0xCB) (s.resolve.advance 1) := by
      unfold fetchInstr
      rw [fetch8_byte (s := s.resolve) hl]
      simp only [Res.andThen, if_neg (show (0xCB : Byte) ≠ s.resolve.cfg.prefixByte from hpre.symm)]
      rfl
    rw [step_of_no_fault hf, hfetch]
    rfl
  · have ht := primaryTable_unimplementedEntries p hp
    have hok := entryOk p.1
    rw [EntryOk, ht] at hok
    obtain ⟨he, hw, -⟩ := hok
    have ha : s.about p.2 := State.about_of_holds hf hw he (by rw [ht]; nofun) hpre ⟨hl, trivial⟩
    rw [step_of_about_op ha he ht, exec_unimplementedEntries p hp]
    rfl

/-! ## The unimplemented entries of the extended table (R143, R145) -/

/-- Settles O57. -/
theorem unimplementedExtendedEntriesRaise : Obligations.UnimplementedExtendedEntriesRaise := by
  refine ⟨rfl, fun i op2 s he => exec_extended i op2 s he, fun op2 s hf h => ?_, fun s t op2 => exec_prefixByte_some,
    fun s => exec_prefixByte_none⟩
  obtain ⟨hw, hs, heq⟩ := (EncodedWith.extended (p := s.cfg.prefixByte) op2 rfl).encodeWith_eq
  have ha : s.about (extendedTable op2) := ⟨hf, hw, hs, heq ▸ h⟩
  have he := (extendedTable_ok op2).1
  rw [step_of_about ha, exec_extended _ op2 _ he, he]
  rfl

end Sys2Proof.Machine
end

section
/-! SUPPORT. The pixel family (R242 to R249, R252): addresses and parts as numbers, and what a pixel depends on. -/

set_option Elab.async false

namespace Sys2Proof.Machine

/-! ## Addresses (R246, R247) -/

theorem State.mapAddress_eq (s : State) (ex ey : Nat) : s.mapAddress ex ey =
    (if s.lcdc.getLsbD s.cfg.lcdcMapBit = true then s.cfg.mapBase1.toNat else s.cfg.mapBase0.toNat) +
      (ey / 8 * 32 + ex / 8) := by
  unfold State.mapAddress
  split <;> rfl

theorem State.tileAddress_unsigned {s : State} (h : s.lcdc.getLsbD s.cfg.lcdcDataBit = true) (idx : Byte) :
    s.tileAddress idx = s.cfg.dataBaseU.toNat + 16 * idx.toNat := if_pos h

/-- In the signed mode an index from 128 on stands 256 tiles lower. -/
theorem State.tileAddress_signed {s : State} (h : s.lcdc.getLsbD s.cfg.lcdcDataBit = false) (idx : Byte) :
    s.tileAddress idx = (if idx.toNat < 128 then s.cfg.dataBaseS.toNat + 16 * idx.toNat
      else s.cfg.dataBaseS.toNat + 16 * idx.toNat - 4096) := by
  rw [State.tileAddress, if_neg (by rw [h]; decide), BitVec.toInt_eq_toNat_cond]
  split <;> split <;> omega

section
variable {s : State} (hb : s.cfg.defaultBases)
include hb

theorem State.mapAddress_range {ex ey : Nat} (hx : ex < 256) (hy : ey < 256) :
    0x9800 ≤ s.mapAddress ex ey ∧ s.mapAddress ex ey ≤ 0x9FFF := by
  obtain ⟨h0, h1, -, -⟩ := hb
  rw [State.mapAddress_eq, h0, h1]
  simp only [BitVec.reduceToNat]
  split <;> omega

theorem State.tileAddress_range_unsigned (h : s.lcdc.getLsbD s.cfg.lcdcDataBit = true) (idx : Byte) :
    0x8000 ≤ s.tileAddress idx ∧ s.tileAddress idx ≤ 0x8FF0 := by
  have := idx.isLt
  rw [State.tileAddress_unsigned h, hb.2.2.1]
  simp only [BitVec.reduceToNat]
  omega

theorem State.tileAddress_range_signed (h : s.lcdc.getLsbD s.cfg.lcdcDataBit = false) (idx : Byte) :
    0x8800 ≤ s.tileAddress idx ∧ s.tileAddress idx ≤ 0x97F0 := by
  have := idx.isLt
  rw [State.tileAddress_signed h, hb.2.2.2]
  simp only [BitVec.reduceToNat]
  split <;> omega

theorem State.tileAddress_range (idx : Byte) : 0x8000 ≤ s.tileAddress idx ∧ s.tileAddress idx ≤ 0x97F0 := by
  cases h : s.lcdc.getLsbD s.cfg.lcdcDataBit with
  | true => have := State.tileAddress_range_unsigned hb h idx; omega
  | false => have := State.tileAddress_range_signed hb h idx; omega

end

/-- Settles O59: both formulas as numbers, and their ranges at the default bases. -/
theorem pixelAddressesLieInVram : Obligations.PixelAddressesLieInVram :=
  ⟨rfl, rfl, ⟨rfl, rfl, rfl, rfl⟩, fun s => ⟨State.mapAddress_eq s, fun idx h => State.tileAddress_unsigned h idx,
    fun idx h => State.tileAddress_signed h idx, fun hb => ⟨fun _ _ => State.mapAddress_range hb,
      fun idx h => State.tileAddress_range_unsigned hb h idx, fun idx h => State.tileAddress_range_signed hb h idx⟩⟩⟩

/-! ## The parts of a pixel (R245, R248, R249) -/

theorem getLsbD_toNat (v : Byte) (k : Nat) : (v.getLsbD k).toNat = v.toNat / 2 ^ k % 2 := Nat.toNat_testBit _ _

theorem ofBool_append_toNat (x y : Bool) :
    (BitVec.ofBool x ++ BitVec.ofBool y : BitVec (1 + 1)).toNat = 2 * x.toNat + y.toNat := by
  cases x <;> cases y <;> rfl

theorem State.rowDecode_toNat (s : State) (t k c : Nat) : (s.rowDecode t k c).toNat =
    2 * ((Memory.readByte s.mem (t + 2 * k + 1)).toNat / 2 ^ (7 - c) % 2) +
      (Memory.readByte s.mem (t + 2 * k)).toNat / 2 ^ (7 - c) % 2 := by
  rw [← getLsbD_toNat, ← getLsbD_toNat]
  exact ofBool_append_toNat _ _

theorem State.palette_toNat (s : State) (ci : BitVec 2) : (s.palette ci).toNat = s.bgp.toNat / 4 ^ ci.toNat % 4 := by
  rw [State.palette, BitVec.extractLsb'_toNat, Nat.shiftRight_eq_div_pow, Nat.pow_mul]

/-! ## Their composition (R244) -/

theorem inVram_iff (a : Nat) : inVram a = true ↔ isVram a := by simp [inVram, isVram]

/-- The bytes a pixel reads lie in VRAM: the map cell and the two bytes of the tile's row. -/
def State.readsVram (s : State) (ex ey : Nat) : Prop :=
  isVram (s.mapAddress ex ey) ∧ isVram (s.tileAddress (s.mapLookup ex ey) + 2 * (ey % 8)) ∧
    isVram (s.tileAddress (s.mapLookup ex ey) + 2 * (ey % 8) + 1)

theorem State.shadeAt_of_readsVram {s : State} {ex ey : Nat} (h : s.readsVram ex ey) : s.shadeAt ex ey =
    some (s.palette (s.rowDecode (s.tileAddress (s.mapLookup ex ey)) (ey % 8) (ex % 8))) := by
  obtain ⟨h1, h2, h3⟩ := h
  rw [State.shadeAt, if_pos]
  rw [(inVram_iff _).2 h1, (inVram_iff _).2 h2, (inVram_iff _).2 h3]
  rfl

theorem State.shadeAt_of_not_readsVram {s : State} {ex ey : Nat} (h : ¬s.readsVram ex ey) : s.shadeAt ex ey = none := by
  refine if_neg fun hc => h ?_
  simp only [Bool.and_eq_true, inVram_iff] at hc
  exact ⟨hc.1.1, hc.1.2, hc.2⟩

theorem State.pixel_of_window {s : State} {x y : Nat} (hx : x < s.cfg.screenW) (hy : y < s.cfg.screenH) :
    s.pixel x y = s.shadeAt (s.scroll x y).1 (s.scroll x y).2 := if_pos ⟨hx, hy⟩

theorem State.pixel_of_not_window {s : State} {x y : Nat} (h : ¬(x < s.cfg.screenW ∧ y < s.cfg.screenH)) :
    s.pixel x y = none := if_neg h

theorem State.readsVram_of_defaultBases {s : State} (hb : s.cfg.defaultBases) (x y : Nat) :
    s.readsVram (s.scroll x y).1 (s.scroll x y).2 := by
  have hx : (s.scroll x y).1 < 256 := Nat.mod_lt _ (by decide)
  have hy : (s.scroll x y).2 < 256 := Nat.mod_lt _ (by decide)
  have hm := State.mapAddress_range hb hx hy
  have ht := State.tileAddress_range hb (s.mapLookup (s.scroll x y).1 (s.scroll x y).2)
  unfold State.readsVram
  omega

/-- Settles O58. -/
theorem pixelParts : Obligations.PixelParts := by
  refine fun s => ⟨fun _ _ => rfl, fun t k c _ => State.rowDecode_toNat s t k c, State.palette_toNat s,
    fun x y hx hy => ⟨fun hb => ?_, fun h1 h2 h3 => ?_, fun h => ?_⟩, fun _ _ => State.pixel_of_not_window⟩
  · exact (State.pixel_of_window hx hy).trans (State.shadeAt_of_readsVram (State.readsVram_of_defaultBases hb x y))
  · exact (State.pixel_of_window hx hy).trans (State.shadeAt_of_readsVram ⟨h1, h2, h3⟩)
  · exact (State.pixel_of_window hx hy).trans (State.shadeAt_of_not_readsVram h)

/-! ## What a pixel depends on (R252) -/

theorem State.pixel_isSome_iff {s : State} (hb : s.cfg.defaultBases) (x y : Nat) :
    (s.pixel x y).isSome = true ↔ x < s.cfg.screenW ∧ y < s.cfg.screenH := by
  by_cases h : x < s.cfg.screenW ∧ y < s.cfg.screenH
  · rw [State.pixel_of_window h.1 h.2, State.shadeAt_of_readsVram (State.readsVram_of_defaultBases hb x y)]
    simp [h]
  · rw [State.pixel_of_not_window h]
    simp [h]

section
variable {s t : State} (hscx : t.scx = s.scx) (hscy : t.scy = s.scy) (hlcdc : t.lcdc = s.lcdc) (hbgp : t.bgp = s.bgp)
  (hcfg : t.cfg.samePixels s.cfg)
  (hvram : ∀ a, 0x8000 ≤ a → a ≤ 0x9FFF → Memory.readByte t.mem a = Memory.readByte s.mem a)

include hlcdc hcfg in
theorem State.mapAddress_congr (ex ey : Nat) : t.mapAddress ex ey = s.mapAddress ex ey := by
  obtain ⟨-, -, h0, h1, -, -, hm, -⟩ := hcfg
  simp only [State.mapAddress, hlcdc, h0, h1, hm]

include hlcdc hcfg in
theorem State.tileAddress_congr (idx : Byte) : t.tileAddress idx = s.tileAddress idx := by
  obtain ⟨-, -, -, -, hu, hs, -, hd⟩ := hcfg
  simp only [State.tileAddress, hlcdc, hu, hs, hd]

include hlcdc hcfg hvram in
theorem State.mapLookup_congr {ex ey : Nat} (hcell : isVram (s.mapAddress ex ey)) :
    t.mapLookup ex ey = s.mapLookup ex ey := by
  rw [State.mapLookup, State.mapLookup, State.mapAddress_congr hlcdc hcfg]
  exact hvram _ hcell.1 hcell.2

include hbgp hvram in
/-- The shade of a row's column is that of its two bytes, through the palette. -/
theorem State.palette_rowDecode_congr {tile k : Nat} (h0 : isVram (tile + 2 * k)) (h1 : isVram (tile + 2 * k + 1))
    (c : Nat) : t.palette (t.rowDecode tile k c) = s.palette (s.rowDecode tile k c) := by
  have hrow : t.rowDecode tile k c = s.rowDecode tile k c :=
    BitVec.eq_of_toNat_eq (by simp only [State.rowDecode_toNat, hvram _ h0.1 h0.2, hvram _ h1.1 h1.2])
  rw [hrow, State.palette, State.palette, hbgp]

include hlcdc hbgp hcfg hvram in
theorem State.shadeAt_congr (ex ey : Nat) : t.shadeAt ex ey = s.shadeAt ex ey := by
  have hm := State.mapAddress_congr hlcdc hcfg ex ey
  by_cases hcell : isVram (s.mapAddress ex ey)
  · have hidx := State.mapLookup_congr hlcdc hcfg hvram hcell
    have ht := State.tileAddress_congr hlcdc hcfg (s.mapLookup ex ey)
    have hreads : t.readsVram ex ey ↔ s.readsVram ex ey := by simp only [State.readsVram, hm, hidx, ht]
    by_cases h : s.readsVram ex ey
    · rw [State.shadeAt_of_readsVram h, State.shadeAt_of_readsVram (hreads.2 h), hidx, ht,
        State.palette_rowDecode_congr hbgp hvram h.2.1 h.2.2]
    · rw [State.shadeAt_of_not_readsVram h, State.shadeAt_of_not_readsVram (mt hreads.1 h)]
  · rw [State.shadeAt_of_not_readsVram fun h => hcell h.1, State.shadeAt_of_not_readsVram fun h => hcell (hm ▸ h.1)]

include hscx hscy hlcdc hbgp hcfg hvram in
theorem State.pixel_congr (x y : Nat) : t.pixel x y = s.pixel x y := by
  have hscroll : t.scroll x y = s.scroll x y := by simp only [State.scroll, hscx, hscy]
  have hwindow : (x < t.cfg.screenW ∧ y < t.cfg.screenH) ↔ (x < s.cfg.screenW ∧ y < s.cfg.screenH) := by
    obtain ⟨hw, hh, -⟩ := hcfg
    rw [hw, hh]
  by_cases h : x < s.cfg.screenW ∧ y < s.cfg.screenH
  · obtain ⟨hx, hy⟩ := hwindow.2 h
    rw [State.pixel_of_window hx hy, State.pixel_of_window h.1 h.2, hscroll, State.shadeAt_congr hlcdc hbgp hcfg hvram]
  · rw [State.pixel_of_not_window h, State.pixel_of_not_window (mt hwindow.1 h)]

end

/-- Settles O60: totality at the default bases, and the congruence of the pixel function. -/
theorem pixelReadsOnlyThePpu : Obligations.PixelReadsOnlyThePpu :=
  ⟨fun _ x y hb => State.pixel_isSome_iff hb x y,
    fun _ _ hscx hscy hlcdc hbgp hcfg hvram => State.pixel_congr hscx hscy hlcdc hbgp hcfg hvram⟩

end Sys2Proof.Machine
end
